-- ==== Sys2Proof/Word.lean ====
section
/-! DEFINITION. The units the part's frames and records are made of: the byte and the two-byte number.
Multi-byte numbers are sent high byte first (11_formats_and_signals.md, opening paragraph). -/

namespace Sys2Proof

/-- One byte of a frame, a payload or a character line. -/
abbrev Byte := BitVec 8

/-- A two-byte number: a service address, a check word, a mark, a counter. -/
abbrev Word := BitVec 16

/-- A touch coordinate, 0 to 4095 (00_scope.md section 3). -/
abbrev Coord := BitVec 12

/-- Kiosk links K0 to K7. -/
abbrev LinkId := Fin 8

/-- Peripheral ports P0 to P5. -/
abbrev PortId := Fin 6

/-- Zones Z0 to Z31. -/
abbrev ZoneId := Fin 32

/-- Window table entries: W0 to W15, and the default window as entry 16. -/
abbrev WindowId := Fin 17

/-- Contact numbers of a panel, 0 to 9. -/
abbrev ContactId := Fin 10

end Sys2Proof
end

