-- ==== Sys2Proof/Syntax.lean ====
section
/-! DEFINITION. The commands of the part: one constructor per row of spec/opcode_table.json, in the table's order.
The table gives no operands; the operands are what the row's event needs to be told from outside (log entry 3).
A level is true when the line is ASSERTED (00_scope.md 4.2). -/

namespace Sys2Proof

/-- What a port receiver samples of one character (R103, R122): the eight data bits, and the levels of the bit
positions after them. A level is true at the rest level of the line and false at the start-bit level. The parity
position is read only in a format with parity, the second stop position only in a format with two stop bits. -/
structure RxChar where
  data : Byte
  parityBit : Bool
  stop1 : Bool
  stop2 : Bool
  /-- How many LOAD_PORTs the port has taken since the start bit: the character is completed in the format it was begun
  in (R103). -/
  loads : Nat
  deriving DecidableEq, Repr

/-- What a link receiver samples of one character (R1): the eight data bits, and the level of the stop bit, true for the
rest level of the line. -/
structure LinkChar where
  data : Byte
  stop : Bool
  deriving DecidableEq, Repr

/-- The levels of the filtered input lines at the moment a reset ends (R9, R104): PRESENT of K0 to K7, READY and
FAULT of P0 to P5, true for asserted. -/
structure Levels where
  present : List Bool
  ready : List Bool
  fault : List Bool
  deriving DecidableEq, Repr

/-- The events of the part. -/
inductive Instr where
  | linkByteReceived (k : LinkId) (c : LinkChar)
  | presentChangeTaken (k : LinkId) (level : Bool)
  | idleCharacterEnd (k : LinkId) (holdIn : Bool)
  | linkFrameComplete (k : LinkId) (holdIn : Bool)
  | frameTaken (k : LinkId)
  | noticeMove (k : LinkId)
  | claim (k : LinkId)
  | release (k : LinkId)
  | data (k : LinkId)
  | status (k : LinkId)
  | loadWindow (k : LinkId)
  | loadZone (k : LinkId)
  | loadPort (k : LinkId)
  | loadLink (k : LinkId)
  | setReport (k : LinkId)
  | readWindow (k : LinkId)
  | readZone (k : LinkId)
  | readPort (k : LinkId)
  | readLink (k : LinkId)
  | readLease (k : LinkId)
  | readCounts (k : LinkId)
  | revoke (k : LinkId)
  | enablePort (k : LinkId)
  | disablePort (k : LinkId)
  | restart (k : LinkId)
  | restartTimeout
  | selfDisableTimeout (k : LinkId)
  | pinReset
  | resetEnd (levels : Levels)
  | idleTimerExpiry (p : PortId)
  | readyChangeTaken (p : PortId) (level : Bool)
  | faultChangeTaken (p : PortId) (level : Bool)
  | graceTimerExpiry (p : PortId)
  | stallTimerExpiry (p : PortId)
  | turnaroundTimerExpiry (p : PortId)
  | gatherTimerExpiry (p : PortId)
  | portCharacterReceived (p : PortId) (c : RxChar)
  | portCharacterSent (p : PortId) (busy : Bool)
  | busyNegated (p : PortId)
  deriving DecidableEq, Repr

end Sys2Proof
end

