-- ==== Sys2Proof/Decode.lean ====
section
/-! DEFINITION. Words of the opcode table. No row of spec/opcode_table.json gives bits, so no word spells a command:
the part has no instruction decoder. Frames are read by the dispatcher (Machine/Operands.lean). -/

namespace Sys2Proof

/-- The command a word spells by the table's bits: none, since no row has bits. -/
def decodeTableWord (_nbits _w : Nat) : Option Instr := none

end Sys2Proof
end

