-- ==== Sys2Proof/Config.lean ====
section
/-! DEFINITION. The fixed numbers of the part (00_scope.md section 3) and the one free value. -/

namespace Sys2Proof.Config

/-- Ingress buffer, bytes per link (R14, R19). -/
def ingressBytes : Nat := 2048

/-- Largest payload of a frame (R4). -/
def maxPayload : Nat := 1024

/-- Places of a control queue (R24). -/
def controlPlaces : Nat := 8

/-- Places of a touch queue (R25). -/
def touchPlaces : Nat := 8

/-- Entries of the wait pool (R74). -/
def waitPlaces : Nat := 24

/-- Wait entries that one link may have (R74). -/
def waitsPerLink : Nat := 4

/-- Largest DATA payload to a JOB port (R44). -/
def maxJobData : Nat := 512

/-- Credit at a grant of a port (R125). -/
def grantCredit : Nat := 2

/-- Ticks a changed line level must hold before it is taken (R180). -/
def filterTicks : Nat := 10

/-- Bound of a RESTART and of a pending self-disable, in ticks of 1 ms (R171, R177). -/
def boundTicks : Nat := 100

/-- FREE VALUE (log entry 2): the order in which events that fall due at one tick are taken is left open by the
manual (00_scope.md 4.4, R179). The number has no body, so nothing can be proved of it. -/
opaque freeChoice : Nat → Nat

end Sys2Proof.Config
end

