-- ==== Sys2Proof/Machine/State.lean ====
section
/-! DEFINITION. The state of the part, as plain data: every table, record, queue, counter, timer and line that
spec/ gives it, and the value of each right after reset. -/

namespace Sys2Proof.Machine

/-! ## Resources, classes, causes -/

/-- A thing that can be leased or asked about: a port or a zone (00_scope.md section 3). -/
inductive Resource where
  | port (p : PortId)
  | zone (z : ZoneId)
  deriving DecidableEq, Repr

/-- The class of a link, lowest first (R75). -/
inductive Class where
  | pub
  | staff
  | service
  deriving DecidableEq, Repr

/-- The causes a REVOKED or DROPPED notice can carry (11.6.5). -/
inductive Cause where
  | idle
  | fault
  | offline
  | stall
  | managed
  | disabled
  deriving DecidableEq, Repr

/-- Why a lease is revoked (R96): for a cause that is reported, or by teardown of the holder's link, which is not. -/
inductive RevokeReason where
  | cause (c : Cause)
  | linkDown
  deriving DecidableEq, Repr

/-- Port states (R106); a PANEL port has the first three (R144). OPEN is written `opened`. -/
inductive PortState where
  | disabled
  | offline
  | idle
  | opened
  | suspended
  | closing
  | settling
  deriving DecidableEq, Repr

/-! ## Windows and zones -/

/-- The three rights of one class (R59). -/
structure ClassRights where
  claim : Bool
  data : Bool
  status : Bool
  deriving DecidableEq, Repr

/-- The nine rights of a window (R59). -/
structure Rights where
  pub : ClassRights
  staff : ClassRights
  service : ClassRights
  deriving DecidableEq, Repr

/-- A window record (R59); target kind and index are the resource it names. -/
structure Window where
  enabled : Bool
  base : Word
  mask : Word
  target : Resource
  rights : Rights
  deriving DecidableEq, Repr

/-- A zone record (R149). -/
structure Zone where
  enabled : Bool
  panel : PortId
  xBase : Coord
  xMask : Coord
  yBase : Coord
  yMask : Coord
  deriving DecidableEq, Repr

/-! ## Profiles -/

/-- Link rates in bit/s (R1, R168). -/
inductive LinkRate where
  | r115200
  | r230400
  | r460800
  | r921600
  deriving DecidableEq, Repr

/-- A link profile (R168). -/
structure LinkProfile where
  enabled : Bool
  cls : Class
  mgmt : Bool
  rate : LinkRate
  high : Word
  low : Word
  maxInbound : Word
  deriving DecidableEq, Repr

/-- The kind of a port (R166). -/
inductive PortKind where
  | job
  | panel
  deriving DecidableEq, Repr

/-- Port line rates in bit/s (R103). -/
inductive LineRate where
  | r1200
  | r2400
  | r4800
  | r9600
  | r19200
  | r38400
  | r57600
  | r115200
  deriving DecidableEq, Repr

/-- Parity of a port line (R103). -/
inductive Parity where
  | none
  | odd
  | even
  deriving DecidableEq, Repr

/-- Stop bits of a port line (R103). -/
inductive StopBits where
  | one
  | two
  deriving DecidableEq, Repr

/-- The character format of a port line (R103). -/
structure LineFormat where
  rate : LineRate
  parity : Parity
  stop : StopBits
  deriving DecidableEq, Repr

/-- Flow control of a JOB port (R118, R119, R121). -/
inductive Flow where
  | none
  | lines
  | codes
  deriving DecidableEq, Repr

/-- A port profile (R166). The limits are in seconds, the turnaround and the gather time in ms. -/
structure PortProfile where
  kind : PortKind
  format : LineFormat
  flow : Flow
  pauseCode : Byte
  resumeCode : Byte
  resumeAny : Bool
  idleLimit : Byte
  faultGrace : Byte
  stallLimit : Byte
  turnaround : Byte
  frameSize : Word
  pauseMark : Word
  gatherTime : Byte
  strayLink : Option LinkId
  deriving DecidableEq, Repr

/-! ## Frames, answers and notices -/

/-- A frame before transparency and without its check word (11.1); its length field is the payload's length. -/
structure Frame where
  kind : Byte
  tag : Byte
  address : Word
  payload : List Byte
  deriving DecidableEq, Repr

/-- What the management unit waits for when it marks an answer (R32). -/
inductive Awaited where
  | restart
  | selfDisable
  deriving DecidableEq, Repr

/-- A frame in a control queue, with the management unit's mark on it (R24, R32). -/
structure ControlFrame where
  frame : Frame
  mark : Option Awaited
  deriving DecidableEq, Repr

/-- The kinds of notice with the fields each carries beside resource and tag (R52). -/
inductive NoticeBody where
  | revoked (cause : Cause)
  | dropped (cause : Cause)
  | released
  | granted
  | suspended
  | resumed
  | credit (amount : Nat)
  | portState (st : PortState)
  deriving DecidableEq, Repr

/-- A pending notice (R52). -/
structure Notice where
  body : NoticeBody
  resource : Resource
  tag : Byte
  deriving DecidableEq, Repr

/-- The phase of a touch report (R181). -/
inductive Phase where
  | down
  | move
  | up
  deriving DecidableEq, Repr

/-- A touch report in a touch queue (R25); zone `none` is the stray report's 0FFH. -/
structure Report where
  zone : Option ZoneId
  panel : PortId
  phase : Phase
  contact : ContactId
  x : Coord
  y : Coord
  deriving DecidableEq, Repr

/-- Which of a port's two buffers: O0 or O1, I0 or I1 (R124). -/
inductive BufId where
  | b0
  | b1
  deriving DecidableEq, Repr

/-- A data queue entry (R28). -/
structure DataEntry where
  port : PortId
  buf : BufId
  count : Nat
  deriving DecidableEq, Repr

/-- The management commands (11.5.1). -/
inductive MgmtCmd where
  | loadWindow
  | loadZone
  | loadPort
  | loadLink
  | setReport
  | readWindow
  | readZone
  | readPort
  | readLink
  | readLease
  | readCounts
  | revoke
  | enablePort
  | disablePort
  | restart
  deriving DecidableEq, Repr

/-- What a frame in hand asks (R41, R42, R49): a decoded request with its resource and the rights copied from the
governing window, or a management command with its payload. -/
inductive Request where
  | claim (r : Resource) (rights : Rights) (wait : Bool)
  | release (r : Resource) (rights : Rights)
  | data (r : Resource) (rights : Rights) (payload : List Byte)
  | status (r : Resource) (rights : Rights)
  | mgmt (cmd : MgmtCmd) (payload : List Byte)
  deriving DecidableEq, Repr

/-- The frame in hand of a dispatcher (R43). -/
structure Hand where
  tag : Byte
  address : Word
  request : Request
  deriving DecidableEq, Repr

/-! ## A kiosk link -/

/-- The part of the frame in assembly that the receiver is in (01_kiosk_link_framing.md section 1.5). -/
inductive RxPhase where
  | header
  | body
  | check
  deriving DecidableEq, Repr

/-- The frame in assembly (section 1.5): the header and payload bytes written to ingress so far, the length once
the header is complete (0 before), the CRC register, the check bytes received, and the escape-pending mark. -/
structure Assembly where
  written : List Byte
  length : Nat
  crc : Word
  checks : List Byte
  escape : Bool
  deriving DecidableEq, Repr

/-- The five receiver states; HEADER, BODY and CHECK hold a frame in assembly (section 1.5). -/
inductive RxState where
  | hunt
  | armed
  | frame (phase : RxPhase) (asm : Assembly)
  deriving DecidableEq, Repr

/-- The queue a frame in transmission came from (R24, R30). -/
inductive TxSource where
  | control (mark : Option Awaited)
  | touch
  | data
  deriving DecidableEq, Repr

/-- What a link transmitter sends: nothing while the part is held in reset (R178), idle fill, or a frame, with the
bytes that stand for it on the line (R2). -/
inductive LinkTx where
  | rest
  | idleFill
  | sending (frame : Frame) (wire : List Byte) (source : TxSource)
  deriving DecidableEq, Repr

/-- High and low mark (R20). -/
structure Marks where
  high : Word
  low : Word
  deriving DecidableEq, Repr

/-- The pending self-disable of a link (R171): running with the ms since the load, or overtaken by a RESTART whose
reset has not yet come (log entry 6). -/
inductive SelfDisable where
  | running (ms : Nat)
  | superseded
  deriving DecidableEq, Repr

/-- The eight counters of a link, in READ_COUNTS order (R37). -/
structure LinkCounters where
  accepted : Word
  checkErrors : Word
  lengthErrors : Word
  aborted : Word
  escapeErrors : Word
  overruns : Word
  refused : Word
  touchLost : Word
  deriving DecidableEq, Repr

/-- Everything the part keeps for one kiosk link. -/
structure Link where
  presentPin : Bool
  presentTicks : Nat
  holdInPin : Bool
  present : Bool
  profile : LinkProfile
  selfDisable : Option SelfDisable
  rx : RxState
  rxRate : LinkRate
  rxNewRate : Option LinkRate
  ingress : List Frame
  marks : Marks
  holdOut : Bool
  control : List ControlFrame
  touch : List Report
  dataQ : List DataEntry
  tx : LinkTx
  txRate : LinkRate
  txNewRate : Option LinkRate
  hand : Option Hand
  notices : List Notice
  counters : LinkCounters
  deriving DecidableEq, Repr

/-! ## Leases and waits -/

/-- Holder link, holder class and claim tag, set and removed together (R71). -/
structure Holding where
  link : LinkId
  cls : Class
  tag : Byte
  deriving DecidableEq, Repr

/-- A lease record but for its idle timer (R71, R72). -/
inductive Lease where
  | free
  | held (h : Holding)
  | releasing (h : Holding)
  deriving DecidableEq, Repr

/-- A wait entry (R74); its place is its place in the pool's list among the entries of its resource. -/
structure Wait where
  link : LinkId
  resource : Resource
  cls : Class
  tag : Byte
  deriving DecidableEq, Repr

/-! ## A peripheral port -/

/-- The inbound codes a code slot can hold (R121). -/
inductive FlowCode where
  | pause
  | resume
  deriving DecidableEq, Repr

/-- The outbound flow state (R119). -/
inductive FlowState where
  | running
  | stopped
  deriving DecidableEq, Repr

/-- An occupied outbound buffer: its bytes and how many of them have been sent (R124). -/
structure OutBuf where
  bytes : List Byte
  sent : Nat
  deriving DecidableEq, Repr

/-- An inbound buffer (R124): handed with the link whose data queue refers to it, and whether it was handed during
the job now open. -/
inductive InBuf where
  | free
  | filling (bytes : List Byte)
  | handed (bytes : List Byte) (link : LinkId) (thisJob : Bool)
  deriving DecidableEq, Repr

/-- The character a port transmitter has in progress (R117): none, a code from the slot, the next byte of an
outbound buffer, or the character of a job that was cut while it was on the line (R115). -/
inductive PortTx where
  | rest
  | code (b : Byte)
  | job (buf : BufId) (b : Byte)
  | tail (b : Byte)
  deriving DecidableEq, Repr

/-- The report assembler of a PANEL port (R145). -/
inductive Assembler where
  | waiting
  | assembling (lead : Byte) (data : List Byte)
  deriving DecidableEq, Repr

/-- The state of a contact (R152). -/
inductive ContactState where
  | free
  | captured (z : ZoneId)
  | detached
  deriving DecidableEq, Repr

/-- A contact record (R152). -/
structure Contact where
  state : ContactState
  lastX : Coord
  lastY : Coord
  deriving DecidableEq, Repr

/-- The ten counters of a port, in READ_COUNTS order (R123, R162). -/
structure PortCounters where
  jobsCompleted : Word
  jobsCut : Word
  parityErrors : Word
  framingErrors : Word
  breaks : Word
  strayBytes : Word
  overruns : Word
  reports : Word
  malformed : Word
  strayTouches : Word
  deriving DecidableEq, Repr

/-- Everything the part keeps for one peripheral port. `rxOldFormats` are the formats that LOAD_PORTs have replaced since
the receiver completed a character, latest first: a character still being received is completed in the one it was begun
in (R103). -/
structure Port where
  readyPin : Bool
  readyTicks : Nat
  faultPin : Bool
  faultTicks : Nat
  busyPin : Bool
  profile : PortProfile
  state : PortState
  remembered : Option PortState
  ready : Bool
  fault : Bool
  idleTimer : Option Nat
  graceTimer : Option Nat
  stallTimer : Option Nat
  turnTimer : Option Nat
  gatherTimer : Option Nat
  flow : FlowState
  slot : Option FlowCode
  paused : Bool
  select : Bool
  hold : Bool
  tx : PortTx
  txBits : List Bool
  txFormat : LineFormat
  rxOldFormats : List LineFormat
  o0 : Option OutBuf
  o1 : Option OutBuf
  fillOrder : List BufId
  credit : Nat
  i0 : InBuf
  i1 : InBuf
  frameSize : Option Nat
  assembler : Assembler
  contacts : Vector Contact 10
  counters : PortCounters
  deriving DecidableEq, Repr

/-! ## The whole part -/

/-- The state of the part. `choices` and `pending` are the model's own: the argument of the free value
Config.freeChoice (log entry 2), and the commands that wait, first in first out. -/
structure State where
  inReset : Bool
  links : Vector Link 8
  ports : Vector Port 6
  windows : Vector Window 17
  zones : Vector Zone 32
  portLeases : Vector Lease 6
  zoneLeases : Vector Lease 32
  waits : List Wait
  reportLink : Option LinkId
  restart : Option Nat
  choices : Nat
  pending : List Instr
  deriving DecidableEq, Repr

/-- Reasons to stop with a fault: none. The manual names no condition in which the part halts; damaged, late and
refused input is counted or answered (R12 to R18, R50, R122). -/
inductive Fault where
  deriving DecidableEq, Repr

/-- Reasons to refuse a command. -/
inductive Refusal where
  /-- Raised only by an arm of `exec` whose command has no meaning yet; safe: no claim can be proved of it. -/
  | notModelled (mnemonic : String)
  deriving DecidableEq, Repr

/-! ## Values after reset -/

/-- The link profile after reset; management right is set on K0 only (R168). -/
def LinkProfile.reset (mgmt : Bool) : LinkProfile where
  enabled := true
  cls := .pub
  mgmt := mgmt
  rate := .r115200
  high := 1536
  low := 512
  maxInbound := 512

/-- All eight counters zero (R37). -/
def LinkCounters.zero : LinkCounters := ⟨0, 0, 0, 0, 0, 0, 0, 0⟩

/-- A link after reset (R11, R38, R58, R164), its PRESENT line negated (log entry 4). -/
def Link.reset (mgmt : Bool) : Link where
  presentPin := false
  presentTicks := 0
  holdInPin := false
  present := false
  profile := LinkProfile.reset mgmt
  selfDisable := none
  rx := .hunt
  rxRate := .r115200
  rxNewRate := none
  ingress := []
  marks := ⟨1536, 512⟩
  holdOut := false
  control := []
  touch := []
  dataQ := []
  tx := .idleFill
  txRate := .r115200
  txNewRate := none
  hand := none
  notices := []
  counters := LinkCounters.zero

/-- The line format after reset (R103). -/
def LineFormat.reset : LineFormat := ⟨.r9600, .none, .one⟩

/-- The port profile after reset (R166). -/
def PortProfile.reset : PortProfile where
  kind := .job
  format := LineFormat.reset
  flow := .none
  pauseCode := 0x13
  resumeCode := 0x11
  resumeAny := false
  idleLimit := 60
  faultGrace := 30
  stallLimit := 0
  turnaround := 50
  frameSize := 256
  pauseMark := 192
  gatherTime := 20
  strayLink := none

/-- All ten counters zero (R123, R162). -/
def PortCounters.zero : PortCounters := ⟨0, 0, 0, 0, 0, 0, 0, 0, 0, 0⟩

/-- A contact after reset (R145). -/
def Contact.reset : Contact := ⟨.free, 0, 0⟩

/-- A port after reset (R106, R124, R145), its READY, FAULT and BUSY lines negated (log entry 4). -/
def Port.reset : Port where
  readyPin := false
  readyTicks := 0
  faultPin := false
  faultTicks := 0
  busyPin := false
  profile := PortProfile.reset
  state := .disabled
  remembered := none
  ready := false
  fault := false
  idleTimer := none
  graceTimer := none
  stallTimer := none
  turnTimer := none
  gatherTimer := none
  flow := .running
  slot := none
  paused := false
  select := false
  hold := false
  tx := .rest
  txBits := []
  txFormat := LineFormat.reset
  rxOldFormats := []
  o0 := none
  o1 := none
  fillOrder := []
  credit := 0
  i0 := .free
  i1 := .free
  frameSize := none
  assembler := .waiting
  contacts := Vector.replicate 10 Contact.reset
  counters := PortCounters.zero

/-- No right for any class (R59). -/
def Rights.clear : Rights := ⟨⟨false, false, false⟩, ⟨false, false, false⟩, ⟨false, false, false⟩⟩

/-- A window record after reset (R59, R70). -/
def Window.reset : Window where
  enabled := false
  base := 0
  mask := 0
  target := .port 0
  rights := Rights.clear

/-- A zone record after reset (R149). -/
def Zone.reset : Zone where
  enabled := false
  panel := 0
  xBase := 0
  xMask := 0
  yBase := 0
  yMask := 0

/-- The part right after reset (R178), every input line negated (log entry 4), no command waiting. -/
def State.reset : State where
  inReset := false
  links := #v[Link.reset true, Link.reset false, Link.reset false, Link.reset false,
    Link.reset false, Link.reset false, Link.reset false, Link.reset false]
  ports := Vector.replicate 6 Port.reset
  windows := Vector.replicate 17 Window.reset
  zones := Vector.replicate 32 Zone.reset
  portLeases := Vector.replicate 6 .free
  zoneLeases := Vector.replicate 32 .free
  waits := []
  reportLink := none
  restart := none
  choices := 0
  pending := []

end Sys2Proof.Machine
end

