-- ==== Sys2Proof/Machine/Operands.lean ====
section
/-! DEFINITION. Formats: the check word and transparency of link frames, the characters of a port line, the codes and
records of 11_formats_and_signals.md in both directions, and the frames the part sends. -/

namespace Sys2Proof.Machine

/-! ## Bytes of a number -/

/-- High byte of a two-byte number; it is sent first (chapter 11, opening paragraph). -/
def hiByte (w : Word) : Byte := BitVec.ofNat 8 (w.toNat / 256)

/-- Low byte of a two-byte number. -/
def loByte (w : Word) : Byte := BitVec.ofNat 8 w.toNat

/-- A two-byte number from its bytes, high byte first. -/
def wordOf (hi lo : Byte) : Word := BitVec.ofNat 16 (hi.toNat * 256 + lo.toNat)

/-- The two bytes of a number in the order sent. -/
def wordBytes (w : Word) : List Byte := [hiByte w, loByte w]

/-- A number as one byte. -/
def byteOf (n : Nat) : Byte := BitVec.ofNat 8 n

/-! ## The check word and transparency -/

/-- One of the eight steps of the CRC register (R5). -/
def crcStep (c : Word) : Word := if c.msb then (c <<< 1) ^^^ 0x1021 else c <<< 1

/-- The CRC register after one more byte (R5). -/
def crcByte (c : Word) (b : Byte) : Word :=
  let c0 := c ^^^ (b.setWidth 16 <<< 8)
  crcStep (crcStep (crcStep (crcStep (crcStep (crcStep (crcStep (crcStep c0)))))))

/-- The check word of the bytes of a header and payload (R5). -/
def crcOf (bytes : List Byte) : Word := bytes.foldl crcByte 0xFFFF

/-- The opening byte (1.2). -/
def openingByte : Byte := 0xC3

/-- The second opening byte (1.2). -/
def secondByte : Byte := 0x3C

/-- Idle fill (1.2). -/
def idleByte : Byte := 0x55

/-- The escape (1.2). -/
def escapeByte : Byte := 0x9E

/-- The three reserved values (1.2). -/
def isReserved (b : Byte) : Bool := b == openingByte || b == idleByte || b == escapeByte

/-- Transparency of one byte (R2). -/
def escaped (b : Byte) : List Byte := if isReserved b then [escapeByte, b ^^^ 0x20] else [b]

/-- The header and payload bytes of a frame (11.1). -/
def Frame.content (f : Frame) : List Byte :=
  f.kind :: f.tag :: (wordBytes f.address ++ wordBytes (BitVec.ofNat 16 f.payload.length) ++ f.payload)

/-- What stands for a frame on the line: opening pair, then content and check word, each byte under transparency (R2). -/
def Frame.wire (f : Frame) : List Byte :=
  openingByte :: secondByte :: (f.content ++ wordBytes (crcOf f.content)).flatMap escaped

/-- The frame that a complete run of header and payload bytes is (R16). -/
def Frame.ofContent : List Byte → Frame
  | kind :: tag :: ah :: al :: _ :: _ :: payload => ⟨kind, tag, wordOf ah al, payload⟩
  | _ => ⟨0, 0, 0, []⟩

/-! ## Characters of a kiosk link -/

/-- The data bits of a character, in the order sent (R1, R103). -/
def dataBits (b : Byte) : List Bool := (List.range 8).map (fun i => b.getLsbD i)

/-- The levels of a character on a kiosk link, first to last, true for the idle level (R1): start bit, eight data bits
least significant first, stop bit. -/
def linkCharBits (b : Byte) : List Bool := false :: (dataBits b ++ [true])

/-- What a link receiver samples of the levels of one character (R1): eight data bits least significant first after the
start bit, and the stop bit, at either level. -/
def LinkChar.ofLevels : List Bool → Option LinkChar
  | [false, b0, b1, b2, b3, b4, b5, b6, b7, stop] => some ⟨BitVec.ofBoolListLE [b0, b1, b2, b3, b4, b5, b6, b7], stop⟩
  | _ => none

/-- The levels of what a link transmitter sends (R1, R2, R3): one character after the other of a frame, characters of
idle fill between frames, and the idle level, with no character, at rest. -/
def LinkTx.levels : LinkTx → List Bool
  | .rest => []
  | .idleFill => linkCharBits idleByte
  | .sending _ wire _ => wire.flatMap linkCharBits

/-! ## Characters of a port line -/

/-- The number of ones in a byte. -/
def onesOf (b : Byte) : Nat := ((List.range 8).filter (fun i => b.getLsbD i)).length

/-- The parity bit that belongs to a byte, when the format has one (R103): under ODD it makes the number of ones
odd, under EVEN even. -/
def parityOf (p : Parity) (b : Byte) : Option Bool :=
  match p with
  | .none => none
  | .odd => some (onesOf b % 2 == 0)
  | .even => some (onesOf b % 2 == 1)

/-- The levels of a character on the line, first to last, true for the rest level (R103): start bit, eight data
bits least significant first, parity bit, stop bits. -/
def charBits (f : LineFormat) (b : Byte) : List Bool :=
  false :: (dataBits b ++ (parityOf f.parity b).toList ++
    (match f.stop with | .one => [true] | .two => [true, true]))

/-- A break: the start-bit level through every data, parity and stop bit position of the format (R122). -/
def RxChar.isBreak (f : LineFormat) (c : RxChar) : Bool :=
  c.data == 0 && (f.parity == .none || !c.parityBit) && !c.stop1 && (f.stop == .one || !c.stop2)

/-- A parity error: the format has a parity bit and the one sampled is not the one that belongs to the byte (R103). -/
def RxChar.parityError (f : LineFormat) (c : RxChar) : Bool :=
  match parityOf f.parity c.data with
  | none => false
  | some q => q != c.parityBit

/-- A framing error: the first stop bit is at the start-bit level (R122); the second is not checked (R103). -/
def RxChar.framingError (c : RxChar) : Bool := !c.stop1

/-! ## Codes -/

/-- Resource numbers in frames: ports 00H to 05H, zones 20H to 3FH (00_scope.md section 3). -/
def Resource.num : Resource → Nat
  | .port p => p.val
  | .zone z => 0x20 + z.val

/-- The resource number as a byte. -/
def Resource.code (r : Resource) : Byte := byteOf r.num

/-- The resource a byte names, or none (R173, R175). -/
def Resource.ofCode (b : Byte) : Option Resource :=
  if h : b.toNat < 6 then some (.port ⟨b.toNat, h⟩)
  else if h : 0x20 ≤ b.toNat ∧ b.toNat < 0x40 then some (.zone ⟨b.toNat - 0x20, by omega⟩)
  else none

/-- The resource number carried where no resource is named (R50). -/
def noResource : Byte := 0xFF

/-- The number below n that a byte gives, or none when it is out of range. -/
def indexOf (n : Nat) (b : Byte) : Option (Fin n) := if h : b.toNat < n then some ⟨b.toNat, h⟩ else none

/-- A set/clear byte (R182). -/
def flagOf (b : Byte) : Option Bool :=
  match b.toNat with
  | 0 => some false
  | 1 => some true
  | _ => none

/-- A set/clear byte as it is sent. -/
def flagByte (b : Bool) : Byte := if b then 1 else 0

/-- A link byte in which 0FFH means none (R182). -/
def linkOrNone (b : Byte) : Option (Option LinkId) :=
  if b = 0xFF then some none else (indexOf 8 b).map some

/-- The byte of a link, 0FFH when absent (R182). -/
def linkByte : Option LinkId → Byte
  | none => 0xFF
  | some k => byteOf k.val

/-- Class codes (11.6.7). -/
def Class.ofByte (b : Byte) : Option Class :=
  match b.toNat with
  | 0 => some .pub
  | 1 => some .staff
  | 2 => some .service
  | _ => none

/-- Class codes (11.6.7); also the rank of a class, higher is first (R75). -/
def Class.rank : Class → Nat
  | .pub => 0
  | .staff => 1
  | .service => 2

/-- Link rate codes (11.6.6). -/
def LinkRate.ofByte (b : Byte) : Option LinkRate :=
  match b.toNat with
  | 0 => some .r115200
  | 1 => some .r230400
  | 2 => some .r460800
  | 3 => some .r921600
  | _ => none

/-- Link rate codes (11.6.6). -/
def LinkRate.code : LinkRate → Byte
  | .r115200 => 0
  | .r230400 => 1
  | .r460800 => 2
  | .r921600 => 3

/-- Port line rate codes (11.6.6). -/
def LineRate.ofByte (b : Byte) : Option LineRate :=
  match b.toNat with
  | 0 => some .r1200
  | 1 => some .r2400
  | 2 => some .r4800
  | 3 => some .r9600
  | 4 => some .r19200
  | 5 => some .r38400
  | 6 => some .r57600
  | 7 => some .r115200
  | _ => none

/-- Port line rate codes (11.6.6). -/
def LineRate.code : LineRate → Byte
  | .r1200 => 0
  | .r2400 => 1
  | .r4800 => 2
  | .r9600 => 3
  | .r19200 => 4
  | .r38400 => 5
  | .r57600 => 6
  | .r115200 => 7

/-- Port kind codes (11.5.2). -/
def PortKind.ofByte (b : Byte) : Option PortKind :=
  match b.toNat with
  | 0 => some .job
  | 1 => some .panel
  | _ => none

/-- Port kind codes (11.5.2). -/
def PortKind.code : PortKind → Byte
  | .job => 0
  | .panel => 1

/-- Parity codes (11.5.2). -/
def Parity.ofByte (b : Byte) : Option Parity :=
  match b.toNat with
  | 0 => some .none
  | 1 => some .odd
  | 2 => some .even
  | _ => Option.none

/-- Parity codes (11.5.2). -/
def Parity.code : Parity → Byte
  | .none => 0
  | .odd => 1
  | .even => 2

/-- Stop bits codes (11.5.2). -/
def StopBits.ofByte (b : Byte) : Option StopBits :=
  match b.toNat with
  | 1 => some .one
  | 2 => some .two
  | _ => none

/-- Stop bits codes (11.5.2). -/
def StopBits.code : StopBits → Byte
  | .one => 1
  | .two => 2

/-- Flow codes (11.5.2). -/
def Flow.ofByte (b : Byte) : Option Flow :=
  match b.toNat with
  | 0 => some .none
  | 1 => some .lines
  | 2 => some .codes
  | _ => Option.none

/-- Flow codes (11.5.2). -/
def Flow.code : Flow → Byte
  | .none => 0
  | .lines => 1
  | .codes => 2

/-- Port state codes (11.6.4). -/
def PortState.code : PortState → Byte
  | .disabled => 0
  | .offline => 1
  | .idle => 2
  | .opened => 3
  | .suspended => 4
  | .closing => 5
  | .settling => 6

/-- Cause codes (11.6.5). -/
def Cause.code : Cause → Byte
  | .idle => 1
  | .fault => 2
  | .offline => 3
  | .stall => 4
  | .managed => 5
  | .disabled => 6

/-- Phase codes of a TOUCH frame (11.3.4). -/
def Phase.code : Phase → Byte
  | .down => 0
  | .move => 1
  | .up => 2

/-! ## Result codes -/

/-- The result codes of answers (R50). -/
inductive Result where
  | done
  | queued
  | closing
  | busy
  | queueFull
  | already
  | notHolder
  | overCredit
  | releasing
  | portDown
  | noService
  | denied
  | badRequest
  | length
  | range
  | inUse
  | lockout
  deriving DecidableEq, Repr

/-- Result codes (11.6.2). -/
def Result.code : Result → Byte
  | .done => 0x00
  | .queued => 0x01
  | .closing => 0x02
  | .busy => 0x10
  | .queueFull => 0x11
  | .already => 0x12
  | .notHolder => 0x13
  | .overCredit => 0x14
  | .releasing => 0x15
  | .portDown => 0x16
  | .noService => 0x20
  | .denied => 0x21
  | .badRequest => 0x22
  | .length => 0x23
  | .range => 0x30
  | .inUse => 0x31
  | .lockout => 0x32

/-- Codes of 10H and above report a request refused (R50, R51). -/
def Result.refused (r : Result) : Bool := 0x10 ≤ r.code.toNat

/-- An answer: result code, resource number, detail, the further bytes of a report or read, and the mark (R32, R50). -/
structure Answer where
  result : Result
  resource : Byte
  detail : Byte
  more : List Byte
  mark : Option Awaited
  deriving DecidableEq, Repr

/-- An answer of three bytes without a mark. -/
def Answer.plain (result : Result) (resource detail : Byte) : Answer := ⟨result, resource, detail, [], none⟩

/-! ## Frames the part sends -/

/-- An ANSWER frame; it echoes the tag and address of the request (R8, 11.3.1). -/
def answerFrame (tag : Byte) (address : Word) (a : Answer) : Frame :=
  ⟨0x81, tag, address, a.result.code :: a.resource :: a.detail :: a.more⟩

/-- Notice kind codes (11.6.3); also the order in which notices are moved (R54). -/
def NoticeBody.rank : NoticeBody → Nat
  | .revoked _ => 1
  | .dropped _ => 2
  | .released => 3
  | .granted => 4
  | .suspended => 5
  | .resumed => 6
  | .credit _ => 7
  | .portState _ => 8

/-- The value byte of a notice (11.3.3). -/
def Notice.value (n : Notice) : Byte :=
  match n.body with
  | .revoked c => c.code
  | .dropped c => c.code
  | .released => 1
  | .granted => match n.resource with
    | .port _ => byteOf Config.grantCredit
    | .zone _ => 0
  | .suspended => 0
  | .resumed => 0
  | .credit a => byteOf a
  | .portState st => st.code

/-- A NOTICE frame (R8, 11.3.3). -/
def Notice.frame (n : Notice) : Frame :=
  ⟨0x82, n.tag, wordOf 0 n.resource.code, [byteOf n.body.rank, n.resource.code, n.value]⟩

/-- The two bytes of a coordinate, the high four bits 0 (R181). -/
def coordBytes (c : Coord) : List Byte := wordBytes (c.setWidth 16)

/-- A TOUCH frame (R31, 11.3.4). -/
def Report.frame (r : Report) : Frame :=
  ⟨0x84, 0, wordOf 0 (match r.zone with | none => 0xFF | some z => (Resource.zone z).code),
    [match r.zone with | none => 0xFF | some z => byteOf z.val, byteOf r.panel.val, r.phase.code, byteOf r.contact.val] ++
      coordBytes r.x ++ coordBytes r.y⟩

/-- A DATA frame from the part (R31). -/
def dataFrame (p : PortId) (bytes : List Byte) : Frame := ⟨0x83, 0, wordOf 0 (Resource.port p).code, bytes⟩

/-! ## Records -/

/-- The rights byte of one class; bits 7 to 3 are not read (R182). -/
def ClassRights.ofByte (b : Byte) : ClassRights := ⟨b.getLsbD 0, b.getLsbD 1, b.getLsbD 2⟩

/-- The rights byte of one class, bits 7 to 3 as 0 (R182). -/
def ClassRights.byte (c : ClassRights) : Byte :=
  byteOf ((if c.claim then 1 else 0) + (if c.data then 2 else 0) + (if c.status then 4 else 0))

/-- The target a window record names by kind and index (R67). -/
def targetOf (kind index : Byte) : Option Resource :=
  match kind.toNat with
  | 0 => (indexOf 6 index).map .port
  | 1 => (indexOf 32 index).map .zone
  | _ => none

/-- The window record of a LOAD_WINDOW for an entry, or none when a check of R67 or R182 fails. -/
def Window.ofBytes (entry : WindowId) : List Byte → Option Window
  | [en, bh, bl, mh, ml, kind, index, r0, r1, r2] => do
    let enabled ← flagOf en
    let target ← targetOf kind index
    if entry.val < 16 && wordOf bh bl &&& wordOf mh ml != 0 then none
    else some ⟨enabled, wordOf bh bl, wordOf mh ml, target,
      ⟨ClassRights.ofByte r0, ClassRights.ofByte r1, ClassRights.ofByte r2⟩⟩
  | _ => none

/-- The window record as READ_WINDOW returns it (11.5.2). -/
def Window.bytes (w : Window) : List Byte :=
  flagByte w.enabled :: (wordBytes w.base ++ wordBytes w.mask ++
    (match w.target with | .port p => [0, byteOf p.val] | .zone z => [1, byteOf z.val]) ++
    [w.rights.pub.byte, w.rights.staff.byte, w.rights.service.byte])

/-- A coordinate pattern, 0 to 4095 (R165). -/
def coordOf (hi lo : Byte) : Option Coord :=
  if (wordOf hi lo).toNat < 4096 then some ((wordOf hi lo).setWidth 12) else none

/-- The zone record of a LOAD_ZONE, or none when a range check of R165 or R182 fails. -/
def Zone.ofBytes : List Byte → Option Zone
  | [en, port, a, b, c, d, e, f, g, h] => do
    let enabled ← flagOf en
    let panel ← indexOf 6 port
    let xBase ← coordOf a b
    let xMask ← coordOf c d
    let yBase ← coordOf e f
    let yMask ← coordOf g h
    if xBase &&& xMask != 0 || yBase &&& yMask != 0 then none
    else some ⟨enabled, panel, xBase, xMask, yBase, yMask⟩
  | _ => none

/-- The zone record as READ_ZONE returns it (11.5.2). -/
def Zone.bytes (z : Zone) : List Byte :=
  [flagByte z.enabled, byteOf z.panel.val] ++ coordBytes z.xBase ++ coordBytes z.xMask ++ coordBytes z.yBase ++
    coordBytes z.yMask

/-- The port profile of a LOAD_PORT, or none when a field fails R166 or R182. -/
def PortProfile.ofBytes : List Byte → Option PortProfile
  | [k, r, pa, st, fl, pc, rc, ra, il, fg, sl, ta, fh, fo, mh, mo, gt, sy] => do
    let kind ← PortKind.ofByte k
    let rate ← LineRate.ofByte r
    let parity ← Parity.ofByte pa
    let stop ← StopBits.ofByte st
    let flow ← Flow.ofByte fl
    let resumeAny ← flagOf ra
    let stray ← linkOrNone sy
    let size := wordOf fh fo
    let mark := wordOf mh mo
    if (flow == .codes && pc == rc) || size.toNat < 16 || 512 < size.toNat || mark.toNat < 8 ||
        size.toNat < mark.toNat || gt.toNat = 0 then none
    else some ⟨kind, ⟨rate, parity, stop⟩, flow, pc, rc, resumeAny, il, fg, sl, ta, size, mark, gt, stray⟩
  | _ => none

/-- The port profile as READ_PORT returns it (11.5.2). -/
def PortProfile.bytes (p : PortProfile) : List Byte :=
  [p.kind.code, p.format.rate.code, p.format.parity.code, p.format.stop.code, p.flow.code, p.pauseCode, p.resumeCode,
    flagByte p.resumeAny, p.idleLimit, p.faultGrace, p.stallLimit, p.turnaround] ++
    wordBytes p.frameSize ++ wordBytes p.pauseMark ++ [p.gatherTime, linkByte p.strayLink]

/-- The link profile of a LOAD_LINK, or none when a field fails R168 or R182. -/
def LinkProfile.ofBytes : List Byte → Option LinkProfile
  | [en, c, mg, r, hh, hl, lh, ll, mh, ml] => do
    let enabled ← flagOf en
    let cls ← Class.ofByte c
    let mgmt ← flagOf mg
    let rate ← LinkRate.ofByte r
    let high := wordOf hh hl
    let low := wordOf lh ll
    let maxIn := wordOf mh ml
    if high.toNat < 256 || 2048 < high.toNat || high.toNat < low.toNat + 256 || maxIn.toNat < 64 ||
        1024 < maxIn.toNat then none
    else some ⟨enabled, cls, mgmt, rate, high, low, maxIn⟩
  | _ => none

/-- The link profile as READ_LINK returns it (11.5.2). -/
def LinkProfile.bytes (p : LinkProfile) : List Byte :=
  [flagByte p.enabled, byteOf p.cls.rank, flagByte p.mgmt, p.rate.code] ++ wordBytes p.high ++ wordBytes p.low ++
    wordBytes p.maxInbound

/-- The eight link counters as READ_COUNTS returns them (R37, 11.5.3). -/
def LinkCounters.bytes (c : LinkCounters) : List Byte :=
  [c.accepted, c.checkErrors, c.lengthErrors, c.aborted, c.escapeErrors, c.overruns, c.refused, c.touchLost].flatMap
    wordBytes

/-- The ten port counters as READ_COUNTS returns them (R174, 11.5.3). -/
def PortCounters.bytes (c : PortCounters) : List Byte :=
  [c.jobsCompleted, c.jobsCut, c.parityErrors, c.framingErrors, c.breaks, c.strayBytes, c.overruns, c.reports,
    c.malformed, c.strayTouches].flatMap wordBytes

/-- The idle timer remaining as three bytes, 0 when absent (11.5.3). -/
def timerBytes (t : Option Nat) : List Byte :=
  let n := t.getD 0
  [byteOf (n / 65536), byteOf (n / 256), byteOf n]

/-- One entry of a wait queue in a READ_LEASE answer (11.5.3). -/
def Wait.bytes (w : Wait) : List Byte := [byteOf w.link.val, byteOf w.cls.rank, w.tag]

/-! ## Management commands -/

/-- Command codes (11.5.1). -/
def MgmtCmd.ofByte (b : Byte) : Option MgmtCmd :=
  match b.toNat with
  | 0x01 => some .loadWindow
  | 0x02 => some .loadZone
  | 0x03 => some .loadPort
  | 0x04 => some .loadLink
  | 0x05 => some .setReport
  | 0x06 => some .readWindow
  | 0x07 => some .readZone
  | 0x08 => some .readPort
  | 0x09 => some .readLink
  | 0x0A => some .readLease
  | 0x0B => some .readCounts
  | 0x0C => some .revoke
  | 0x0D => some .enablePort
  | 0x0E => some .disablePort
  | 0x0F => some .restart
  | _ => none

/-- Payload lengths, the command byte included (11.5.1). -/
def MgmtCmd.length : MgmtCmd → Nat
  | .loadWindow => 12
  | .loadZone => 12
  | .loadPort => 20
  | .loadLink => 12
  | .setReport => 2
  | .readWindow => 2
  | .readZone => 2
  | .readPort => 2
  | .readLink => 2
  | .readLease => 2
  | .readCounts => 4
  | .revoke => 2
  | .enablePort => 2
  | .disablePort => 2
  | .restart => 1

/-- The resource a management payload names, none when its naming operand is missing or out of range (R163). -/
def MgmtCmd.names (cmd : MgmtCmd) (payload : List Byte) : Option Resource :=
  match cmd, payload with
  | .loadZone, _ :: a :: _ => (indexOf 32 a).map .zone
  | .readZone, _ :: a :: _ => (indexOf 32 a).map .zone
  | .loadPort, _ :: a :: _ => (indexOf 6 a).map .port
  | .readPort, _ :: a :: _ => (indexOf 6 a).map .port
  | .enablePort, _ :: a :: _ => (indexOf 6 a).map .port
  | .disablePort, _ :: a :: _ => (indexOf 6 a).map .port
  | .readLease, _ :: a :: _ => Resource.ofCode a
  | .revoke, _ :: a :: _ => Resource.ofCode a
  | .readCounts, _ :: kind :: a :: _ => if kind = 1 then (indexOf 6 a).map .port else none
  | _, _ => none

/-! ## Touch reports on a port line -/

/-- The phase a lead byte names, from its bits 6 and 5 (R181). -/
def leadPhase (lead : Byte) : Option Phase :=
  match lead.toNat / 32 % 4 with
  | 0 => some .down
  | 1 => some .move
  | 2 => some .up
  | _ => none

/-- The contact a lead byte names, from its bits 3 to 0 (R181). -/
def leadContact (lead : Byte) : Option ContactId :=
  if h : lead.toNat % 16 < 10 then some ⟨lead.toNat % 16, h⟩ else none

/-- A coordinate from its two data bytes: six high bits times 64 plus six low bits (R181). -/
def coordFrom (hi lo : Byte) : Coord := BitVec.ofNat 12 (hi.toNat % 64 * 64 + lo.toNat % 64)

end Sys2Proof.Machine
end

