-- ==== Sys2Proof/Machine/Flags.lean ====
section
/-! DEFINITION. The conditions the part keeps up to date: saturating counters, link UP, HOLD-out, and of a port its
readiness, inbound pause, rest of the job and stall. Each is computed from one link or one port alone. -/

namespace Sys2Proof.Machine

/-- One more on a counter, which stops at 65535 (R18, R37, R123, R162). -/
def bump (c : Word) : Word := if c = 0xFFFF then c else c + 1

/-! ## Links -/

/-- Change the counters of a link. -/
def Link.mapCounters (l : Link) (f : LinkCounters → LinkCounters) : Link := { l with counters := f l.counters }

/-- Change the counters of a port. -/
def Port.mapCounters (p : Port) (f : PortCounters → PortCounters) : Port := { p with counters := f p.counters }

/-- The link state (R9): UP while PRESENT is taken as asserted and the profile is enabled, or while a pending
self-disable is set. -/
def Link.up (l : Link) : Bool := l.present && (l.profile.enabled || l.selfDisable.isSome)

/-- Bytes a stored frame occupies (R16, R19). -/
def Frame.space (f : Frame) : Nat := 6 + f.payload.length

/-- Bytes the frame in assembly has written (R14). -/
def RxState.written : RxState → Nat
  | .hunt => 0
  | .armed => 0
  | .frame _ a => a.written.length

/-- Ingress occupancy (R19). -/
def Link.occupancy (l : Link) : Nat := (l.ingress.map Frame.space).sum + l.rx.written

/-- HOLD-out after a change of occupancy, with the marks then in effect (R20). -/
def holdOutAfter (before : Bool) (occ : Nat) (m : Marks) : Bool :=
  if before then !(occ ≤ m.low.toNat) else m.high.toNat ≤ occ

/-- A change of occupancy from `was` is judged once, with the marks the profile holds now (R20, R21); where occupancy
did not change, nothing is judged. -/
def Link.judgeHold (was : Nat) (l : Link) : Link :=
  if l.occupancy = was then l
  else
    let m : Marks := ⟨l.profile.high, l.profile.low⟩
    { l with marks := m, holdOut := holdOutAfter l.holdOut l.occupancy m }

/-- Free places of the control queue (R24). -/
def Link.freePlaces (l : Link) : Nat := Config.controlPlaces - l.control.length

/-- Notices pending about a resource: the P of R43. -/
def Link.pendingAbout (l : Link) (r : Resource) : Nat := (l.notices.filter (fun n => n.resource == r)).length

/-- Room for the handling event of a request about r, or of one that names no resource (R43, R49). -/
def Link.roomFor (l : Link) (r : Option Resource) : Bool :=
  match r with
  | none => 1 ≤ l.freePlaces
  | some r => l.pendingAbout r + 1 ≤ l.freePlaces

/-! ## Rights -/

/-- The three rights of a class in a window's nine (R59). -/
def Rights.of (rs : Rights) : Class → ClassRights
  | .pub => rs.pub
  | .staff => rs.staff
  | .service => rs.service

/-! ## Ports -/

/-- OPEN, SUSPENDED and CLOSING: a job is open (R105). -/
def PortState.isJob : PortState → Bool
  | .opened => true
  | .suspended => true
  | .closing => true
  | .disabled => false
  | .offline => false
  | .idle => false
  | .settling => false

/-- The port is ready: READY asserted and FAULT negated (R104). -/
def Port.isReady (p : Port) : Bool := p.ready && !p.fault

/-- An inbound buffer. -/
def Port.inb (p : Port) : BufId → InBuf
  | .b0 => p.i0
  | .b1 => p.i1

/-- Replace an inbound buffer. -/
def Port.setInb (p : Port) (b : BufId) (x : InBuf) : Port :=
  match b with
  | .b0 => { p with i0 := x }
  | .b1 => { p with i1 := x }

/-- An outbound buffer. -/
def Port.outb (p : Port) : BufId → Option OutBuf
  | .b0 => p.o0
  | .b1 => p.o1

/-- Replace an outbound buffer. -/
def Port.setOutb (p : Port) (b : BufId) (x : Option OutBuf) : Port :=
  match b with
  | .b0 => { p with o0 := x }
  | .b1 => { p with o1 := x }

/-- The other buffer of a pair. -/
def BufId.other : BufId → BufId
  | .b0 => .b1
  | .b1 => .b0

/-- An inbound buffer that is free. -/
def InBuf.isFree : InBuf → Bool
  | .free => true
  | .filling _ => false
  | .handed _ _ _ => false

/-- An inbound buffer that holds bytes, filling or handed (R94). -/
def InBuf.holdsBytes : InBuf → Bool
  | .free => false
  | .filling bytes => !bytes.isEmpty
  | .handed _ _ _ => true

/-- The filling buffer of a port with its bytes; there is at most one (R124). -/
def Port.filling (p : Port) : Option (BufId × List Byte) :=
  match p.i0, p.i1 with
  | .filling bytes, _ => some (.b0, bytes)
  | _, .filling bytes => some (.b1, bytes)
  | _, _ => none

/-- Whether the inbound pause is wanted (R138). -/
def Port.wantsPause (p : Port) : Bool :=
  p.state.isJob &&
    match p.filling with
    | none => true
    | some (b, bytes) => p.profile.pauseMark.toNat ≤ bytes.length && !(p.inb b.other).isFree

/-- The code slot after a code is to be placed in it: the opposite code is withdrawn instead (R121). -/
def placeCode (slot : Option FlowCode) (c : FlowCode) : Option FlowCode :=
  match slot with
  | none => some c
  | some d => if d = c then some c else none

/-- Express or release the inbound pause on the line (R121); a judgement that agrees changes nothing (R138). -/
def Port.setPause (p : Port) (want : Bool) : Port :=
  if p.paused = want then p
  else match p.profile.flow with
    | .none => { p with paused := want }
    | .lines => { p with paused := want, hold := want }
    | .codes => { p with paused := want, slot := placeCode p.slot (if want then .pause else .resume) }

/-- Judge the inbound pause again (R138). -/
def Port.judgePause (p : Port) : Port := p.setPause p.wantsPause

/-- The job is at rest (R94). -/
def Port.atRest (p : Port) : Bool :=
  p.state == .opened && p.fillOrder.isEmpty && !p.i0.holdsBytes && !p.i1.holdsBytes && p.profile.idleLimit != 0

/-- Start the idle timer when the job comes to rest, clear it when it is not at rest (R94). -/
def Port.judgeRest (p : Port) : Port :=
  { p with idleTimer := if p.atRest then some (p.idleTimer.getD (p.profile.idleLimit.toNat * 1000)) else none }

/-- A character of job data is in progress. -/
def PortTx.isJob : PortTx → Bool
  | .job _ _ => true
  | .rest => false
  | .code _ => false
  | .tail _ => false

/-- Outbound flow permits a character of job data (R118, R119). -/
def Port.permits (p : Port) : Bool :=
  match p.profile.flow with
  | .none => true
  | .lines => !p.busyPin
  | .codes => p.flow == .running

/-- Outbound is held by flow: the port is OPEN or CLOSING, a byte of job data waits, and flow does not permit it
(R118, R119, R120). -/
def Port.outHeld (p : Port) : Bool :=
  (p.state == .opened || p.state == .closing) && !p.fillOrder.isEmpty && !p.tx.isJob && !p.permits

/-- The stall timer runs while outbound is held and the stall limit is not 0 (R120). -/
def Port.judgeStall (p : Port) : Port :=
  { p with stallTimer :=
      if p.outHeld && p.profile.stallLimit != 0 then some (p.stallTimer.getD (p.profile.stallLimit.toNat * 1000))
      else none }

/-- All three judgements; each changes nothing where its conditions have not changed. -/
def Port.judge (p : Port) : Port := p.judgePause.judgeRest.judgeStall

end Sys2Proof.Machine
end

