-- ==== Sys2Proof/Machine/Receiver.lean ====
section
/-! DEFINITION. The link receiver (01_kiosk_link_framing.md section 1.5): what one received byte does to the framing
state, the ingress buffer and the receive counters of its link. -/

namespace Sys2Proof.Machine

/-- What a byte is inside a frame, by its value and the escape-pending mark (R12). -/
inductive RxClass where
  | opening
  | fill
  | escape
  | escapeError
  | content (b : Byte)
  deriving DecidableEq, Repr

/-- The table of R12. -/
def classify (escapePending : Bool) (b : Byte) : RxClass :=
  if b = openingByte then .opening
  else if b = idleByte then .fill
  else if !escapePending then (if b = escapeByte then .escape else .content b)
  else if isReserved (b ^^^ 0x20) then .content (b ^^^ 0x20)
  else .escapeError

/-- A new frame in assembly (R11). -/
def Assembly.new : Assembly := ⟨[], 0, 0xFFFF, [], false⟩

/-- The receiver leaves the frame it was in for `next`. That is a frame boundary: a waiting rate takes effect, and
the receiver is then in HUNT (R17). -/
def Link.leaveFrame (next : RxState) (l : Link) : Link :=
  match l.rxNewRate with
  | none => { l with rx := next }
  | some r => { l with rx := .hunt, rxRate := r, rxNewRate := none }

/-- The frame in assembly is discarded: its bytes leave ingress, which is a change of occupancy (R14, R19, R20). -/
def Link.discardFrame (next : RxState) (l : Link) : Link := (l.leaveFrame next).judgeHold l.occupancy

/-- Write one content byte of the header or payload into ingress (R13, R14, R15); none when ingress is full. -/
def Link.writeByte (phase : RxPhase) (a : Assembly) (b : Byte) (l : Link) : Option (Assembly × Link) :=
  if Config.ingressBytes ≤ l.occupancy then none
  else
    let a' := { a with written := a.written ++ [b], crc := crcByte a.crc b, escape := false }
    some (a', Link.judgeHold l.occupancy { l with rx := .frame phase a' })

/-- The frame in assembly is lost for want of space (R14). -/
def Link.overrun (l : Link) : Link :=
  (l.discardFrame .hunt).mapCounters (fun c => { c with overruns := bump c.overruns })

/-- The length field of a complete header: its fifth and sixth bytes (R13). -/
def headerLength (written : List Byte) : Nat :=
  match written with
  | [_, _, _, _, hi, lo] => (wordOf hi lo).toNat
  | _ => 0

/-- A content byte in HEADER (R13). -/
def Link.headerByte (a : Assembly) (b : Byte) (l : Link) : Link :=
  match l.writeByte .header a b with
  | none => l.overrun
  | some (a', l') =>
    if a'.written.length < 6 then l'
    else
      let n := headerLength a'.written
      if Config.maxPayload < n then
        (l'.discardFrame .hunt).mapCounters (fun c => { c with lengthErrors := bump c.lengthErrors })
      else { l' with rx := .frame (if n = 0 then .check else .body) { a' with length := n } }

/-- A content byte in BODY (R15). -/
def Link.bodyByte (a : Assembly) (b : Byte) (l : Link) : Link :=
  match l.writeByte .body a b with
  | none => l.overrun
  | some (a', l') =>
    if a'.written.length < 6 + a'.length then l' else { l' with rx := .frame .check a' }

/-- A content byte in CHECK (R15, R16): with the second the frame is stored whole or is a check error. -/
def Link.checkByte (a : Assembly) (b : Byte) (l : Link) : Link :=
  let a' := { a with checks := a.checks ++ [b], crc := crcByte a.crc b, escape := false }
  if a'.checks.length < 2 then { l with rx := .frame .check a' }
  else if a'.crc = 0 then
    ({ l with ingress := l.ingress ++ [Frame.ofContent a.written] }.leaveFrame .hunt).mapCounters
      (fun c => { c with accepted := bump c.accepted })
  else (l.discardFrame .hunt).mapCounters (fun c => { c with checkErrors := bump c.checkErrors })

/-- A content byte passes to the handling of the part of the frame the receiver is in (R12, last sentence). -/
def Link.contentByte (phase : RxPhase) (a : Assembly) (b : Byte) (l : Link) : Link :=
  match phase with
  | .header => l.headerByte a b
  | .body => l.bodyByte a b
  | .check => l.checkByte a b

/-- A byte received inside a frame (R12). -/
def Link.frameByte (phase : RxPhase) (a : Assembly) (b : Byte) (l : Link) : Link :=
  match classify a.escape b with
  | .opening => (l.discardFrame .armed).mapCounters (fun c => { c with aborted := bump c.aborted })
  | .fill => (l.discardFrame .hunt).mapCounters (fun c => { c with aborted := bump c.aborted })
  | .escape => { l with rx := .frame phase { a with escape := true } }
  | .escapeError => (l.discardFrame .hunt).mapCounters (fun c => { c with escapeErrors := bump c.escapeErrors })
  | .content x => l.contentByte phase a x

/-- A byte received on an UP link (R11, R12). -/
def Link.receiveByte (b : Byte) (l : Link) : Link :=
  match l.rx with
  | .hunt => if b = openingByte then { l with rx := .armed } else l
  | .armed =>
    if b = secondByte then { l with rx := .frame .header Assembly.new }
    else if b = openingByte then l
    else { l with rx := .hunt }
  | .frame phase a => l.frameByte phase a b

end Sys2Proof.Machine
end

