-- ==== Sys2Proof/Machine/Ops.lean ====
section
/-! DEFINITION. The operations the commands share: access to links, ports and leases, notices, touch queues, staging
buffers, grants, the end of a job, revokes, contacts, and teardown of a link. -/

namespace Sys2Proof.Machine

/-! ## Access -/

/-- Every link, in order. -/
def linkIds : List LinkId := [0, 1, 2, 3, 4, 5, 6, 7]

/-- Every port, in order. -/
def portIds : List PortId := [0, 1, 2, 3, 4, 5]

/-- Every contact, in order of contact number. -/
def contactIds : List ContactId := [0, 1, 2, 3, 4, 5, 6, 7, 8, 9]

/-- Every zone, in order. -/
def zoneIds : List ZoneId :=
  [0, 1, 2, 3, 4, 5, 6, 7, 8, 9, 10, 11, 12, 13, 14, 15, 16, 17, 18, 19, 20, 21, 22, 23, 24, 25, 26, 27, 28, 29, 30, 31]

/-- A link of the part. -/
def State.link (s : State) (k : LinkId) : Link := s.links[k.val]

/-- Replace a link. -/
def State.setLink (s : State) (k : LinkId) (l : Link) : State := { s with links := s.links.set k.val l }

/-- Change a link. -/
def State.mapLink (s : State) (k : LinkId) (f : Link → Link) : State := s.setLink k (f (s.link k))

/-- A port of the part. -/
def State.port (s : State) (p : PortId) : Port := s.ports[p.val]

/-- Replace a port. -/
def State.setPort (s : State) (p : PortId) (x : Port) : State := { s with ports := s.ports.set p.val x }

/-- Change a port. -/
def State.mapPort (s : State) (p : PortId) (f : Port → Port) : State := s.setPort p (f (s.port p))

/-- A zone record. -/
def State.zone (s : State) (z : ZoneId) : Zone := s.zones[z.val]

/-- Replace a zone record. -/
def State.setZone (s : State) (z : ZoneId) (x : Zone) : State := { s with zones := s.zones.set z.val x }

/-- The lease record of a resource (R71). -/
def State.lease (s : State) : Resource → Lease
  | .port p => s.portLeases[p.val]
  | .zone z => s.zoneLeases[z.val]

/-- Replace a lease record. -/
def State.setLease (s : State) (r : Resource) (l : Lease) : State :=
  match r with
  | .port p => { s with portLeases := s.portLeases.set p.val l }
  | .zone z => { s with zoneLeases := s.zoneLeases.set z.val l }

/-- Replace the wait pool. -/
def State.setWaits (s : State) (ws : List Wait) : State := { s with waits := ws }

/-- Holder link, class and tag of a lease that is not FREE (R71). -/
def Lease.holding : Lease → Option Holding
  | .free => none
  | .held h => some h
  | .releasing h => some h

/-- The link that holds a resource, if any. -/
def State.holder (s : State) (r : Resource) : Option LinkId := (s.lease r).holding.map (·.link)

/-! ## Pending notices -/

/-- The order in which pending notices are moved: by kind, then by resource number (R54). -/
def Notice.order (n : Notice) : Nat := n.body.rank * 64 + n.resource.num

/-- Two notices of one kind about one resource (R52). -/
def Notice.sameKey (a b : Notice) : Bool := a.body.rank == b.body.rank && a.resource == b.resource

/-- Put a notice in its place in a set kept in the order of R54. -/
def insertNotice (n : Notice) : List Notice → List Notice
  | [] => [n]
  | m :: ms => if n.order < m.order then n :: m :: ms else m :: insertNotice n ms

/-- Enter a notice, replacing one of the same kind about the same resource (last row of R53). -/
def replaceNotice (n : Notice) (set : List Notice) : List Notice :=
  insertNotice n (set.filter (fun m => !m.sameKey n))

/-- A notice that a REVOKED about the same resource withdraws (first row of R53). -/
def NoticeBody.withdrawnByRevoke : NoticeBody → Bool
  | .granted => true
  | .credit _ => true
  | .suspended => true
  | .resumed => true
  | .revoked _ => false
  | .dropped _ => false
  | .released => false
  | .portState _ => false

/-- The pending set after a notice enters it (R53). -/
def mergeNotice (set : List Notice) (n : Notice) : List Notice :=
  match n.body with
  | .revoked _ => replaceNotice n (set.filter (fun m => !(m.resource == n.resource && m.body.withdrawnByRevoke)))
  | .suspended => replaceNotice n (set.filter (fun m => !(m.resource == n.resource && m.body == .resumed)))
  | .resumed =>
    if set.any (fun m => m.resource == n.resource && m.body == .suspended) then
      set.filter (fun m => !(m.resource == n.resource && m.body == .suspended))
    else replaceNotice n set
  | .credit a =>
    match set.find? (fun m => m.sameKey n) with
    | some m =>
      match m.body with
      | .credit c => replaceNotice { m with body := .credit (c + a) } set
      | _ => replaceNotice n set
    | none => replaceNotice n set
  | .dropped _ => replaceNotice n set
  | .released => replaceNotice n set
  | .granted => replaceNotice n set
  | .portState _ => replaceNotice n set

/-- A notice enters the pending set of a link; one for a DOWN link is discarded (R36, R52). -/
def State.enterNotice (s : State) (k : LinkId) (n : Notice) : State :=
  if (s.link k).up then s.mapLink k (fun l => { l with notices := mergeNotice l.notices n }) else s

/-- Change the state of a port, with SELECT (R105) and the PORT_STATE notice to the report link (R56). -/
def State.setPortState (s : State) (p : PortId) (st : PortState) : State :=
  let s1 := s.mapPort p (fun x => { x with state := st, select := st.isJob })
  match s.reportLink with
  | none => s1
  | some k => s1.enterNotice k ⟨.portState st, .port p, 0⟩

/-! ## Touch queues -/

/-- The most recently arrived MOVE of the same panel and contact is replaced in its place (R26 case 1); the list is
given newest first. -/
def replaceMove (r : Report) : List Report → Option (List Report)
  | [] => none
  | q :: qs =>
    if q.phase = .move && q.panel = r.panel && q.contact = r.contact then some (r :: qs)
    else (replaceMove r qs).map (q :: ·)

/-- The oldest MOVE is removed (R26 case 2); the list is given oldest first. -/
def dropMove : List Report → Option (List Report)
  | [] => none
  | q :: qs => if q.phase = .move then some qs else (dropMove qs).map (q :: ·)

/-- A report arriving at a full touch queue (R26). -/
def fullTouch (queue : List Report) (r : Report) : List Report :=
  match (if r.phase = .move then replaceMove r queue.reverse else none) with
  | some q => q.reverse
  | none =>
    match dropMove queue with
    | some q => q ++ [r]
    | none => queue.drop 1 ++ [r]

/-- A report arrives at a link's touch queue (R25, R26, R27). -/
def Link.takeReport (r : Report) (l : Link) : Link :=
  if !l.up then l
  else if l.touch.length < Config.touchPlaces then { l with touch := l.touch ++ [r] }
  else { l with touch := fullTouch l.touch r }.mapCounters (fun c => { c with touchLost := bump c.touchLost })

/-- A report is placed in a link's touch queue. -/
def State.queueReport (s : State) (k : LinkId) (r : Report) : State := s.mapLink k (Link.takeReport r)

/-! ## Staging buffers -/

/-- Make a free inbound buffer filling when the port has none, I0 before I1 (R132). -/
def Port.startFilling (p : Port) : Port :=
  if p.filling.isSome then p
  else if p.i0.isFree then { p with i0 := .filling [] }
  else if p.i1.isFree then { p with i1 := .filling [] }
  else p

/-- The frame of a data queue entry is in transmission: the entry is at the head and the transmitter sends it (R29). -/
def Link.transmits (l : Link) (p : PortId) (b : BufId) : Bool :=
  match l.tx, l.dataQ with
  | .sending _ _ .data, e :: _ => e.port == p && e.buf == b
  | _, _ => false

/-- The filling buffer, holding bytes, goes to the data queue of link k (R136, first two sentences). -/
def State.handTo (s : State) (p : PortId) (b : BufId) (bytes : List Byte) (k : LinkId) : State :=
  (s.mapLink k (fun l => { l with dataQ := l.dataQ ++ [⟨p, b, bytes.length⟩] })).mapPort p
    (fun x => { x.setInb b (.handed bytes k true) with gatherTimer := none })

/-- A handing for size or on gather expiry (R136); never of an empty buffer. -/
def State.handFilling (s : State) (p : PortId) : State :=
  match (s.port p).filling, s.holder (.port p) with
  | some (b, bytes), some k =>
    if bytes.isEmpty then s
    else (s.handTo p b bytes k).mapPort p (fun x => x.startFilling.judge)
  | _, _ => s

/-- A freed buffer returns to its port engine (R137). -/
def Port.returnBuffer (b : BufId) (p : Port) : Port :=
  let p1 := p.setInb b .free
  let p2 := if p1.state.isJob && p1.filling.isNone then p1.setInb b (.filling []) else p1
  p2.judge

/-- A buffer handed during the job no longer belongs to one once the job has ended (R124, R142). -/
def InBuf.leaveJob : InBuf → InBuf
  | .free => .free
  | .filling bytes => .filling bytes
  | .handed bytes k _ => .handed bytes k false

/-- What a port keeps for its job goes at the job's end, orderly or cut: timers, remembered state, credit and frame
size; the pause is released (R115, R121, R140, R141). -/
def Port.closeJob (p : Port) : Port :=
  Port.setPause
    { p with
      remembered := none, idleTimer := none, graceTimer := none, stallTimer := none, gatherTimer := none,
      o0 := none, o1 := none, fillOrder := [], credit := 0, frameSize := none,
      i0 := p.i0.leaveJob, i1 := p.i1.leaveJob }
    false

/-! ## Grants -/

/-- A port opens for a holder (R79, R110, R125, R132, R133). -/
def State.openPort (s : State) (p : PortId) (h : Holding) : State :=
  let size := min (s.port p).profile.frameSize.toNat (s.link h.link).profile.maxInbound.toNat
  let s1 := (s.setLease (.port p) (.held h)).setPortState p .opened
  s1.mapPort p (fun x => (Port.startFilling { x with credit := Config.grantCredit, frameSize := some size }).judge)

/-- The lease of r becomes HELD (R79, R82). -/
def State.grant (s : State) (r : Resource) (h : Holding) : State :=
  match r with
  | .port p => s.openPort p h
  | .zone z => s.setLease (.zone z) (.held h)

/-- r is grantable (R77). -/
def State.grantable (s : State) (r : Resource) : Bool :=
  match r with
  | .port p => (s.port p).profile.kind == .job && (s.port p).state == .idle && s.lease r == .free
  | .zone z => (s.zone z).enabled && s.lease r == .free

/-- The wait queue of r, head first (R75). -/
def State.queueOf (s : State) (r : Resource) : List Wait := s.waits.filter (fun w => w.resource == r)

/-- The order in which the pool's list is kept: by resource, and within one by class at arrival (R75). -/
def Wait.order (w : Wait) : Nat := w.resource.num * 4 + (2 - w.cls.rank)

/-- A new entry stands behind every entry of its resource of the same or a higher class (R75). -/
def insertWait (w : Wait) : List Wait → List Wait
  | [] => [w]
  | v :: vs => if w.order < v.order then w :: v :: vs else v :: insertWait w vs

/-- An entry leaves the pool (R76). -/
def State.removeWait (s : State) (k : LinkId) (r : Resource) : State :=
  s.setWaits (s.waits.filter (fun w => !(w.link == k && w.resource == r)))

/-- Grant r to the head of its queue when it is grantable and has one (R77, R82). -/
def State.grantHead (s : State) (r : Resource) : State :=
  if s.grantable r then
    match s.queueOf r with
    | [] => s
    | w :: _ => ((s.removeWait w.link r).grant r ⟨w.link, w.cls, w.tag⟩).enterNotice w.link ⟨.granted, r, w.tag⟩
  else s

/-- A port enters IDLE, and the head of its queue is granted in the same event (R83). -/
def State.enterIdle (s : State) (p : PortId) : State := (s.setPortState p .idle).grantHead (.port p)

/-- A port enters SETTLING; with a turnaround of 0 it goes on to IDLE (R116). -/
def State.enterSettling (s : State) (p : PortId) : State :=
  let t := (s.port p).profile.turnaround.toNat
  let s1 := s.setPortState p .settling
  if t = 0 then s1.enterIdle p else s1.mapPort p (fun x => { x with turnTimer := some t })

/-! ## The end of a job -/

/-- The orderly end of a job, by RELEASE with outbound data drained or by completion of a drain (R88, R90, R140): the
filling buffer is handed when it holds bytes, the lease becomes FREE, the port goes to SETTLING. -/
def State.endJob (s : State) (p : PortId) : State :=
  let s1 := match (s.port p).filling, s.holder (.port p) with
    | some (b, bytes), some k =>
      if bytes.isEmpty then s.mapPort p (fun x => x.setInb b .free) else s.handTo p b bytes k
    | some (b, _), none => s.mapPort p (fun x => x.setInb b .free)
    | none, _ => s
  let s2 := s1.mapPort p (fun x =>
    x.closeJob.mapCounters (fun c => { c with jobsCompleted := bump c.jobsCompleted }))
  (s2.setLease (.port p) .free).enterSettling p

/-- The completion of the drain of a CLOSING job (R90): the former holder is told RELEASED. -/
def State.completeDrain (s : State) (p : PortId) : State :=
  match (s.lease (.port p)).holding with
  | none => s.endJob p
  | some h => (s.enterNotice h.link ⟨.released, .port p, h.tag⟩).endJob p

/-- What a cut does to one inbound buffer (R115, R141). -/
def State.cutInbound (s : State) (p : PortId) (b : BufId) : State :=
  match (s.port p).inb b with
  | .free => s
  | .filling _ => s.mapPort p (fun x => x.setInb b .free)
  | .handed _ k thisJob =>
    if thisJob && !(s.link k).transmits p b then
      (s.mapLink k (fun l => { l with dataQ := l.dataQ.filter (fun e => !(e.port == p && e.buf == b)) })).mapPort p
        (fun x => x.setInb b .free)
    else s

/-- The character of a cut job that is on the line is completed but belongs to no buffer (R115). -/
def PortTx.orphan : PortTx → PortTx
  | .job _ b => .tail b
  | .rest => .rest
  | .code b => .code b
  | .tail b => .tail b

/-- A cut (R115, R141): what the port engine does, but for the port's next state. -/
def State.cut (s : State) (p : PortId) : State :=
  ((s.cutInbound p .b0).cutInbound p .b1).mapPort p (fun x =>
    Port.mapCounters { x.closeJob with tx := x.tx.orphan } (fun c => { c with jobsCut := bump c.jobsCut }))

/-- The state a cut port goes to: SETTLING when ready, otherwise OFFLINE (R114). -/
def State.afterCut (s : State) (p : PortId) : State :=
  if (s.port p).isReady then s.enterSettling p else s.setPortState p .offline

/-- The state a revoked port goes to by the cause (R114); DISABLED is the last step of DISABLE_PORT (R107). -/
def State.afterRevoke (s : State) (p : PortId) (why : RevokeReason) : State :=
  match why with
  | .cause .fault => s.setPortState p .offline
  | .cause .offline => s.setPortState p .offline
  | .cause .disabled => s
  | .cause .idle => s.afterCut p
  | .cause .stall => s.afterCut p
  | .cause .managed => s.afterCut p
  | .linkDown => s.afterCut p

/-- The REVOKED notice to the former holder; LINK_DOWN makes none (R97). -/
def State.noticeRevoked (s : State) (r : Resource) (h : Holding) (why : RevokeReason) : State :=
  match why with
  | .cause c => s.enterNotice h.link ⟨.revoked c, r, h.tag⟩
  | .linkDown => s

/-- A revoke of a port's lease (R97, R114); nothing when the lease is FREE. -/
def State.revokePort (s : State) (p : PortId) (why : RevokeReason) : State :=
  match (s.lease (.port p)).holding with
  | none => s
  | some h => (((s.cut p).setLease (.port p) .free).noticeRevoked (.port p) h why).afterRevoke p why

/-! ## Contacts -/

/-- A contact record of a panel (R152). -/
def State.contact (s : State) (p : PortId) (c : ContactId) : Contact := (s.port p).contacts[c.val]

/-- Replace a contact record. -/
def State.setContact (s : State) (p : PortId) (c : ContactId) (x : Contact) : State :=
  s.mapPort p (fun y => { y with contacts := y.contacts.set c.val x })

/-- The synthetic UP of a contact for a zone, at its last coordinates (R156). -/
def State.syntheticUp (s : State) (p : PortId) (c : ContactId) (z : ZoneId) (k : LinkId) : State :=
  s.queueReport k ⟨some z, p, .up, c, (s.contact p c).lastX, (s.contact p c).lastY⟩

/-- What the end of a zone's lease does to one contact of its panel (R159): a synthetic UP to the former holder, when
there is one to tell, and DETACHED. -/
def State.detach (s : State) (p : PortId) (z : ZoneId) (tell : Option LinkId) (c : ContactId) : State :=
  if (s.contact p c).state = .captured z then
    let s1 := match tell with | none => s | some k => s.syntheticUp p c z k
    s1.setContact p c { s1.contact p c with state := .detached }
  else s

/-- The contacts of a zone whose lease ends, in order of contact number (R159). -/
def State.detachZone (s : State) (z : ZoneId) (tell : Option LinkId) : State :=
  contactIds.foldl (fun t c => t.detach (s.zone z).panel z tell c) s

/-- What a panel leaving IDLE does to one contact (R160): a synthetic UP to the holder of its zone, and FREE. -/
def State.freeContact (s : State) (p : PortId) (c : ContactId) : State :=
  let s1 := match (s.contact p c).state with
    | .captured z => match s.holder (.zone z) with | none => s | some k => s.syntheticUp p c z k
    | .free => s
    | .detached => s
  s1.setContact p c { s1.contact p c with state := .free }

/-- A PANEL port leaves IDLE (R148, R160). -/
def State.panelLeavesIdle (s : State) (p : PortId) : State :=
  contactIds.foldl (fun t c => t.freeContact p c) (s.mapPort p (fun x => { x with assembler := .waiting }))

/-- A revoke of a zone's lease (R97, R159); the head of its queue is granted in the same event (R84). -/
def State.revokeZone (s : State) (z : ZoneId) (why : RevokeReason) : State :=
  match (s.lease (.zone z)).holding with
  | none => s
  | some h =>
    let tell := match why with | .cause _ => some h.link | .linkDown => none
    (((s.detachZone z tell).setLease (.zone z) .free).noticeRevoked (.zone z) h why).grantHead (.zone z)

/-- A revoke (R97). -/
def State.revoke (s : State) (r : Resource) (why : RevokeReason) : State :=
  match r with
  | .port p => s.revokePort p why
  | .zone z => s.revokeZone z why

/-- Every wait entry of r is dropped, front to back, with cause DISABLED (R100). -/
def State.dropWaits (s : State) (r : Resource) : State :=
  (s.queueOf r).foldl (fun t w => t.enterNotice w.link ⟨.dropped .disabled, r, w.tag⟩)
    (s.setWaits (s.waits.filter (fun w => !(w.resource == r))))

/-! ## A link going DOWN -/

/-- What teardown does to the link's own state (R10, R34). The link is DOWN already, or goes DOWN here as its pending
self-disable ends (R171). A rate that waited for the end of an abandoned frame takes effect (log entry 7). -/
def Link.tearDown (l : Link) : Link :=
  let l1 := { l with ingress := [], selfDisable := none }.leaveFrame .hunt
  let l2 := match l1.tx with
    | .sending _ _ _ =>
      { l1 with tx := .idleFill, txRate := l1.txNewRate.getD l1.txRate, txNewRate := none }
    | .idleFill => l1
    | .rest => l1
  let l3 := l2.judgeHold l.occupancy
  { l3 with holdOut := false, control := [], touch := [], dataQ := [], hand := none, notices := [] }

/-- Every buffer that the link's data queue referred to returns to its port engine (R143). The manual gives no order; the
model returns them in the order of the queue, head first, which says which of two buffers of a port becomes filling
(DESIGN CHOICE, log entry 19). -/
def State.returnEntries (s : State) (es : List DataEntry) : State :=
  es.foldl (fun t e => t.mapPort e.port (Port.returnBuffer e.buf)) s

/-- Revoke the lease of r with LINK_DOWN when link k holds it (R101). -/
def State.revokeIfHeldBy (s : State) (k : LinkId) (r : Resource) : State :=
  if s.holder r = some k then s.revoke r .linkDown else s

/-- Every resource, ports first. -/
def allResources : List Resource := portIds.map .port ++ zoneIds.map .zone

/-- Teardown of a link that has just gone DOWN, at the link, at the port engines and at the lease block (R34, R35,
R101, R143). The link's waits leave first, so no grant made here goes to it. -/
def State.tearDown (s : State) (k : LinkId) : State :=
  let entries := (s.link k).dataQ
  let s1 := (s.mapLink k Link.tearDown).returnEntries entries
  let s2 := s1.setWaits (s1.waits.filter (fun w => !(w.link == k)))
  allResources.foldl (fun t r => t.revokeIfHeldBy k r) s2

/-- The link comes UP (R33). -/
def Link.comeUp (l : Link) : Link := { l with rx := .hunt, holdOut := false }

end Sys2Proof.Machine
end

