-- ==== Sys2Proof/Machine/Timers.lean ====
section
/-! DEFINITION. Time (R179, R180): the levels of the filtered input lines, what one tick of the 1 ms timebase counts, and
which events are due. An event falls due at a tick and is taken before the next (log entry 1). -/

namespace Sys2Proof.Machine

/-! ## Input lines -/

/-- The PRESENT line changes to a level; at each change of level the count of its filter begins again (R180). -/
def Link.putPresent (level : Bool) (l : Link) : Link := { l with presentPin := level, presentTicks := 0 }

/-- The READY line changes to a level (R180). -/
def Port.putReady (level : Bool) (p : Port) : Port := { p with readyPin := level, readyTicks := 0 }

/-- The FAULT line changes to a level (R180). -/
def Port.putFault (level : Bool) (p : Port) : Port := { p with faultPin := level, faultTicks := 0 }

/-! ## Counting -/

/-- A timer is lowered by 1; the count 0 stands until its expiry is taken, before the next tick (R179). -/
def countDown (t : Option Nat) : Option Nat := t.map (fun n => n - 1)

/-- The filter of a line: ticks are counted while the line differs from its line state (R180). -/
def countFilter (pin taken : Bool) (ticks : Nat) : Nat := if pin = taken then 0 else ticks + 1

/-- The time of a pending self-disable (R171). -/
def SelfDisable.age : SelfDisable → SelfDisable
  | .running ms => .running (ms + 1)
  | .superseded => .superseded

/-- One tick at a link. -/
def Link.tick (l : Link) : Link :=
  { l with
    presentTicks := countFilter l.presentPin l.present l.presentTicks,
    selfDisable := l.selfDisable.map SelfDisable.age }

/-- One tick at a port: its filters and its five timers (R179, R180). -/
def Port.tick (p : Port) : Port :=
  { p with
    readyTicks := countFilter p.readyPin p.ready p.readyTicks,
    faultTicks := countFilter p.faultPin p.fault p.faultTicks,
    idleTimer := countDown p.idleTimer, graceTimer := countDown p.graceTimer,
    stallTimer := countDown p.stallTimer, turnTimer := countDown p.turnTimer,
    gatherTimer := countDown p.gatherTimer }

/-- One tick of the timebase, everywhere (R179). -/
def State.tick (s : State) : State :=
  { s with
    links := s.links.map Link.tick, ports := s.ports.map Port.tick, restart := s.restart.map (· + 1) }

/-! ## What falls due -/

/-- An event that a tick can bring. -/
inductive Due where
  | present (k : LinkId)
  | selfDisable (k : LinkId)
  | restart
  | ready (p : PortId)
  | fault (p : PortId)
  | idle (p : PortId)
  | grace (p : PortId)
  | stall (p : PortId)
  | turn (p : PortId)
  | gather (p : PortId)
  deriving DecidableEq, Repr

/-- The time of a pending self-disable has reached its bound (R171). -/
def SelfDisable.over : SelfDisable → Bool
  | .running ms => Config.boundTicks ≤ ms
  | .superseded => false

/-- The event is due in s: a tick has brought its timer to 0, its bound to 100 ms, or its filter to the tenth tick, and
it has not been taken yet (R171, R177, R179, R180). -/
def Due.isDue (s : State) : Due → Bool
  | .present k => Config.filterTicks ≤ (s.link k).presentTicks
  | .selfDisable k => (s.link k).selfDisable.any SelfDisable.over
  | .restart => s.restart.any (fun n => decide (Config.boundTicks ≤ n))
  | .ready p => Config.filterTicks ≤ (s.port p).readyTicks
  | .fault p => Config.filterTicks ≤ (s.port p).faultTicks
  | .idle p => (s.port p).idleTimer == some 0
  | .grace p => (s.port p).graceTimer == some 0
  | .stall p => (s.port p).stallTimer == some 0
  | .turn p => (s.port p).turnTimer == some 0
  | .gather p => (s.port p).gatherTimer == some 0

/-- The events a link can have due. -/
def Due.ofLink (k : LinkId) : List Due := [.present k, .selfDisable k]

/-- The events a port can have due. -/
def Due.ofPort (p : PortId) : List Due := [.ready p, .fault p, .idle p, .grace p, .stall p, .turn p, .gather p]

/-- Every event a tick can bring. -/
def Due.all : List Due := .restart :: (linkIds.flatMap Due.ofLink ++ portIds.flatMap Due.ofPort)

/-- The events due in s. -/
def State.due (s : State) : List Due := Due.all.filter (Due.isDue s)

/-- What happens when an event is taken only where it is due: an event that is not due changes nothing (log entry 5). -/
def State.whenDue (s : State) (d : Due) (t : State) : State := if d.isDue s then t else s

end Sys2Proof.Machine
end

