-- ==== Sys2Proof/Machine/Resets.lean ====
section
/-! DEFINITION. Reset of the whole part (R178), the RESTART bound (R177), and how every command is held off while the
RESET input is asserted. -/

namespace Sys2Proof.Machine

/-- The outcome of a command that works on the running part: while the part is held in reset it is without effect
(R178, log entry 5). -/
def State.live (s t : State) : Host.Outcome State Fault Refusal := .next (if s.inReset then s else t)

/-- A link at its reset values, with its PRESENT and HOLD-in lines at the levels they have and a present state (R9, R38). -/
def Link.resetAt (mgmt pin present holdIn : Bool) : Link :=
  { Link.reset mgmt with presentPin := pin, present := present, holdInPin := holdIn }

/-- A port at its reset values, with its READY, FAULT and BUSY lines and two line states (R104, R106). -/
def Port.resetAt (readyPin faultPin busyPin ready fault : Bool) : Port :=
  { Port.reset with readyPin := readyPin, faultPin := faultPin, busyPin := busyPin, ready := ready, fault := fault }

/-- Every item at its reset value but for the lines, which `atLink` and `atPort` give from what was there before.
The waiting commands and the count of free choices are the model's own and stay. -/
def State.resetBy (s : State) (atLink : LinkId → Link → Link) (atPort : PortId → Port → Port) : State :=
  let s0 : State := { State.reset with choices := s.choices, pending := s.pending }
  let s1 := linkIds.foldl (fun t k => t.setLink k (atLink k (s.link k))) s0
  portIds.foldl (fun t p => t.setPort p (atPort p (s.port p))) s1

/-- Only K0 has management right after reset (R168). -/
def resetMgmt (k : LinkId) : Bool := k == 0

/-- Assertion of the RESET input: the part is held, its link outputs at rest, every other output negated (R178). No
line state is taken before the reset ends. -/
def State.pinReset (s : State) : State :=
  let t := s.resetBy
    (fun k l => { Link.resetAt (resetMgmt k) l.presentPin false l.holdInPin with tx := .rest })
    (fun _ p => Port.resetAt p.readyPin p.faultPin p.busyPin false false)
  { t with inReset := true }

/-- Negation of the RESET input: present, READY and FAULT line states are taken from the lines at once (R9, R104, R178). -/
def State.resetEnd (s : State) (v : Levels) : State :=
  s.resetBy
    (fun k l => Link.resetAt (resetMgmt k) (v.present.getD k.val false) (v.present.getD k.val false) l.holdInPin)
    (fun p x => Port.resetAt (v.ready.getD p.val false) (v.fault.getD p.val false) x.busyPin
      (v.ready.getD p.val false) (v.fault.getD p.val false))

/-- The reset brought by RESTART, one event at every block: as a pin reset ends, with the levels the lines have, but a
character in progress on a port line is completed in its old format (R178). -/
def State.restartReset (s : State) : State :=
  s.resetBy
    (fun k l => Link.resetAt (resetMgmt k) l.presentPin l.presentPin l.holdInPin)
    (fun _ p => { Port.resetAt p.readyPin p.faultPin p.busyPin p.readyPin p.faultPin with
      tx := p.tx.orphan, txBits := p.txBits,
      txFormat := if p.tx = .rest then LineFormat.reset else p.txFormat })

/-- PIN_RESET (R178). -/
def execPinReset (s : State) : Host.Outcome State Fault Refusal := .next s.pinReset

/-- RESET_END (R178): it ends a reset the part is held in. -/
def execResetEnd (levels : Levels) (s : State) : Host.Outcome State Fault Refusal :=
  .next (if s.inReset then s.resetEnd levels else s)

/-- RESTART_TIMEOUT (R177): 100 ms have passed and the reset has not taken place yet. -/
def execRestartTimeout (s : State) : Host.Outcome State Fault Refusal :=
  s.live (s.whenDue .restart s.restartReset)

end Sys2Proof.Machine
end

