-- ==== Sys2Proof/Machine/Dispatchers.lean ====
section
/-! DEFINITION. The request dispatcher of a link (chapter 3) and the window decoder it asks (chapter 4): taking a frame,
moving a notice, and what every handling event shares. -/

namespace Sys2Proof.Machine

/-! ## Window decode -/

/-- A numbered window matches an address (R60): enabled, and equal wherever its mask is clear. -/
def Window.matches (w : Window) (a : Word) : Bool := w.enabled && (a &&& ~~~w.mask == w.base &&& ~~~w.mask)

/-- The governing window of an address: the lowest-numbered of W0 to W15 that matches, else the default window when it
is enabled (R61, R62). -/
def State.govern (s : State) (a : Word) : Option Window :=
  match (s.windows.toList.take 16).find? (fun w => w.matches a) with
  | some w => some w
  | none => if s.windows[16].enabled then some s.windows[16] else none

/-! ## Answers -/

/-- An answer is composed and enters the control queue at its tail; a refusal is counted (R50, R51). -/
def Link.placeAnswer (tag : Byte) (address : Word) (a : Answer) (l : Link) : Link :=
  let l1 := { l with control := l.control ++ [⟨answerFrame tag address a, a.mark⟩] }
  if a.result.refused then l1.mapCounters (fun c => { c with refused := bump c.refused }) else l1

/-! ## Taking a frame -/

/-- What the taking finds: an answer to be placed at once, or a request whose handling event follows (R41, R42). -/
inductive Taken where
  | answer (a : Answer)
  | hand (r : Request)
  deriving DecidableEq, Repr

/-- A form that is not acceptable (R41 cases 1, 4 and 5). -/
def Taken.bad : Taken := .answer (Answer.plain .badRequest noResource 0)

/-- A request of acceptable form is decoded (R42). -/
def State.decodeRequest (s : State) (a : Word) (f : Resource → Rights → Request) : Taken :=
  match s.govern a with
  | none => .answer (Answer.plain .noService noResource 0)
  | some w => .hand (f w.target w.rights)

/-- The mode byte of a CLAIM: 00H NOWAIT, 01H WAIT (11.2). -/
def claimMode (payload : List Byte) : Option Bool :=
  match payload with
  | [m] => flagOf m
  | _ => none

/-- The management command a payload carries; none when it names no command (R163 check 1). -/
def mgmtOf (payload : List Byte) : Option MgmtCmd :=
  match payload with
  | c :: _ => MgmtCmd.ofByte c
  | [] => none

/-- The judgement at the taking (R41, R42, R49, R163). A MGMT frame that names no command is answered at once. -/
def State.judgeFrame (s : State) (k : LinkId) (f : Frame) : Taken :=
  match f.kind.toNat with
  | 0x01 =>
    match claimMode f.payload with
    | none => Taken.bad
    | some wait => s.decodeRequest f.address (fun r rights => .claim r rights wait)
  | 0x02 => if f.payload.isEmpty then s.decodeRequest f.address .release else Taken.bad
  | 0x03 => s.decodeRequest f.address (fun r rights => .data r rights f.payload)
  | 0x04 => if f.payload.isEmpty then s.decodeRequest f.address .status else Taken.bad
  | 0x0F =>
    if (s.link k).profile.mgmt then
      match mgmtOf f.payload with
      | none => Taken.bad
      | some cmd => .hand (.mgmt cmd f.payload)
    else .answer (Answer.plain .denied noResource 0)
  | _ => Taken.bad

/-- A notice can be moved (R54). -/
def Link.canMove (l : Link) : Bool := l.up && l.hand.isNone && 2 ≤ l.freePlaces && !l.notices.isEmpty

/-- The dispatcher may take a frame (R39); a notice that can be moved goes first (R40). -/
def State.canTake (s : State) (k : LinkId) : Bool :=
  (s.link k).up && s.restart.isNone && (s.link k).selfDisable.isNone && (s.link k).hand.isNone &&
    1 ≤ (s.link k).freePlaces && !(s.link k).canMove

/-- FRAME_TAKEN (R39 to R42): the oldest stored frame leaves ingress, and is answered at once or becomes the frame in
hand until its handling event. -/
def execFrameTaken (k : LinkId) (s : State) : Host.Outcome State Fault Refusal :=
  s.live (match (s.link k).ingress with
    | [] => s
    | f :: fs =>
      if s.canTake k then
        let t := s.mapLink k (fun l => Link.judgeHold l.occupancy { l with ingress := fs })
        match s.judgeFrame k f with
        | .answer a => t.mapLink k (Link.placeAnswer f.tag f.address a)
        | .hand r => t.mapLink k (fun l => { l with hand := some ⟨f.tag, f.address, r⟩ })
      else s)

/-! ## Notices -/

/-- NOTICE_MOVE (R54): the first pending notice becomes a frame at the tail of the control queue. -/
def execNoticeMove (k : LinkId) (s : State) : Host.Outcome State Fault Refusal :=
  s.live (match (s.link k).notices with
    | [] => s
    | n :: ns =>
      if (s.link k).canMove then
        s.mapLink k (fun l => { l with notices := ns, control := l.control ++ [⟨n.frame, none⟩] })
      else s)

/-- The notices pending about r are moved ahead of an answer about r, in the order of R54 (R55). -/
def Link.flush (r : Option Resource) (l : Link) : Link :=
  match r with
  | none => l
  | some r =>
    { l with
      control := l.control ++ (l.notices.filter (fun n => n.resource == r)).map (fun n => ⟨n.frame, none⟩),
      notices := l.notices.filter (fun n => !(n.resource == r)) }

/-! ## Handling events -/

/-- A request performed: the state it leaves and its answer, none for an accepted DATA frame (R47). -/
structure Performed where
  state : State
  answer : Option Answer

/-- The request is answered and nothing else. -/
def Performed.answered (s : State) (a : Answer) : Performed := ⟨s, some a⟩

/-- The handling event is begun: the frame leaves the hand, and the notices about r pending before the event are moved
(R55). -/
def State.prepared (s : State) (k : LinkId) (r : Option Resource) : State :=
  s.mapLink k (fun l => { l with hand := none }.flush r)

/-- The answer to a frame in hand is placed (R50). -/
def State.answer (s : State) (k : LinkId) (h : Hand) (a : Answer) : State :=
  s.mapLink k (Link.placeAnswer h.tag h.address a)

/-- The handling event of the frame in hand about r (R43, R44, R49, R55). The notices about r pending before the event
are moved, the request is performed, and its answer is placed after them; notices the request itself makes for this
link stand in the set after the answer. Without the room of R43, and while a RESTART is under way (R58), the frame
waits. -/
def State.handle (s : State) (k : LinkId) (h : Hand) (r : Option Resource) (perform : State → Performed) : State :=
  if s.restart.isNone && (s.link k).roomFor r then
    let done := perform (s.prepared k r)
    match done.answer with
    | none => done.state
    | some a => done.state.answer k h a
  else s

end Sys2Proof.Machine
end

