-- ==== Sys2Proof/Machine/Requests.lean ====
section
/-! DEFINITION. The handling events of CLAIM, RELEASE, DATA and STATUS (R44 to R48, chapters 5 and 7). -/

namespace Sys2Proof.Machine

/-- The target is a port of kind PANEL (R44, R64). -/
def State.isPanel (s : State) (r : Resource) : Bool :=
  match r with
  | .port p => (s.port p).profile.kind == .panel
  | .zone _ => false

/-- The class of a link as it is now (R44, R69). -/
def State.cls (s : State) (k : LinkId) : Class := (s.link k).profile.cls

/-! ## CLAIM -/

/-- The situation of r that R78 and R86 speak of: the link holds it or waits for it. -/
def State.waitsOn (s : State) (k : LinkId) (r : Resource) : Bool :=
  s.waits.any (fun w => w.link == k && w.resource == r)

/-- r is out of service: a DISABLED port or a disabled zone (R78 row 2). -/
def State.outOfService (s : State) (r : Resource) : Bool :=
  match r with
  | .port p => (s.port p).state == .disabled
  | .zone z => !(s.zone z).enabled

/-- r is an OFFLINE port (R78 row 5). -/
def State.isOffline (s : State) (r : Resource) : Bool :=
  match r with
  | .port p => (s.port p).state == .offline
  | .zone _ => false

/-- The position of link k's entry in the wait queue of r, 1 for the head, 0 for none (R75). -/
def State.position (s : State) (k : LinkId) (r : Resource) : Nat :=
  match (s.queueOf r).findIdx? (fun w => w.link == k) with
  | none => 0
  | some i => i + 1

/-- A WAIT CLAIM makes a wait entry, or is refused for want of room (R80). -/
def State.makeWait (s : State) (k : LinkId) (r : Resource) (tag : Byte) : Performed :=
  if Config.waitsPerLink ≤ (s.waits.filter (fun w => w.link == k)).length then
    .answered s (Answer.plain .queueFull r.code 1)
  else if Config.waitPlaces ≤ s.waits.length then .answered s (Answer.plain .queueFull r.code 0)
  else
    let t := s.setWaits (insertWait ⟨k, r, s.cls k, tag⟩ s.waits)
    .answered t (Answer.plain .queued r.code (byteOf (t.position k r)))

/-- The detail of a grant: the credit for a port, 0 for a zone (R45). -/
def grantDetail : Resource → Byte
  | .port _ => byteOf Config.grantCredit
  | .zone _ => 0

/-- A CLAIM is judged by the rows of R78. -/
def State.claim (s : State) (k : LinkId) (r : Resource) (wait : Bool) (tag : Byte) : Performed :=
  if s.holder r = some k || s.waitsOn k r then .answered s (Answer.plain .already r.code 0)
  else if s.outOfService r then .answered s (Answer.plain .portDown r.code 0)
  else if s.grantable r then .answered (s.grant r ⟨k, s.cls k, tag⟩) (Answer.plain .done r.code (grantDetail r))
  else if wait then s.makeWait k r tag
  else if s.isOffline r then .answered s (Answer.plain .portDown r.code 0)
  else .answered s (Answer.plain .busy r.code 0)

/-- A CLAIM at its handling event: rights, then target, then the lease block (R44, R45). -/
def State.performClaim (k : LinkId) (r : Resource) (rights : Rights) (wait : Bool) (tag : Byte) (s : State) : Performed :=
  if !(rights.of (s.cls k)).claim then .answered s (Answer.plain .denied r.code 0)
  else if s.isPanel r then .answered s (Answer.plain .badRequest r.code 0)
  else s.claim k r wait tag

/-- CLAIM (R78). -/
def execClaim (k : LinkId) (s : State) : Host.Outcome State Fault Refusal :=
  s.live (match (s.link k).hand with
    | some ⟨tag, address, .claim r rights wait⟩ =>
      s.handle k ⟨tag, address, .claim r rights wait⟩ (some r) (State.performClaim k r rights wait tag)
    | _ => s)

/-! ## RELEASE -/

/-- The RELEASE of a zone by its holder (R87): synthetic UPs, FREE, and the head of the queue granted. -/
def State.releaseZone (s : State) (k : LinkId) (z : ZoneId) : State :=
  ((s.detachZone z (some k)).setLease (.zone z) .free).grantHead (.zone z)

/-- The RELEASE of a HELD port by its holder, by port state and staged data (R88, R89, R91). -/
def State.releasePort (s : State) (p : PortId) (h : Holding) : Performed :=
  let code := (Resource.port p).code
  if (s.port p).state = .suspended then
    .answered (((s.cut p).setLease (.port p) .free).setPortState p .offline) (Answer.plain .done code 1)
  else if (s.port p).fillOrder.isEmpty then .answered (s.endJob p) (Answer.plain .done code 0)
  else
    .answered
      (((s.setLease (.port p) (.releasing h)).setPortState p .closing).mapPort p Port.judge)
      (Answer.plain .closing code 0)

/-- Rows 3 and 4 of R86: the link's wait is withdrawn, or it has none. -/
def State.releaseWait (s : State) (k : LinkId) (r : Resource) : Performed :=
  if s.waitsOn k r then .answered (s.removeWait k r) (Answer.plain .done r.code 0)
  else .answered s (Answer.plain .notHolder r.code 0)

/-- A RELEASE is judged by the rows of R86. -/
def State.release (s : State) (k : LinkId) (r : Resource) : Performed :=
  match s.lease r with
  | .releasing h =>
    if h.link = k then .answered s (Answer.plain .already r.code 0) else s.releaseWait k r
  | .held h =>
    if h.link = k then
      match r with
      | .zone z => .answered (s.releaseZone k z) (Answer.plain .done r.code 0)
      | .port p => s.releasePort p h
    else s.releaseWait k r
  | .free => s.releaseWait k r

/-- A RELEASE at its handling event (R44, R46); it needs the CLAIM right (R63). -/
def State.performRelease (k : LinkId) (r : Resource) (rights : Rights) (s : State) : Performed :=
  if !(rights.of (s.cls k)).claim then .answered s (Answer.plain .denied r.code 0)
  else if s.isPanel r then .answered s (Answer.plain .badRequest r.code 0)
  else s.release k r

/-- RELEASE (R86). -/
def execRelease (k : LinkId) (s : State) : Host.Outcome State Fault Refusal :=
  s.live (match (s.link k).hand with
    | some ⟨tag, address, .release r rights⟩ =>
      s.handle k ⟨tag, address, .release r rights⟩ (some r) (State.performRelease k r rights)
    | _ => s)

/-! ## DATA -/

/-- A payload is staged (R126): copied whole into a free buffer, O0 first, at the end of the fill order. -/
def Port.stage (payload : List Byte) (p : Port) : Port :=
  let b : BufId := if p.o0.isNone then .b0 else .b1
  Port.judge
    { p.setOutb b (some ⟨payload, 0⟩) with fillOrder := p.fillOrder ++ [b], credit := p.credit - 1 }

/-- A DATA frame for a JOB port: the sender, then the credit (R47, R93, R126, R127). -/
def State.takeData (s : State) (k : LinkId) (p : PortId) (payload : List Byte) : Performed :=
  let code := (Resource.port p).code
  match s.lease (.port p) with
  | .free => .answered s (Answer.plain .notHolder code 0)
  | .releasing h =>
    if h.link = k then .answered s (Answer.plain .releasing code 0) else .answered s (Answer.plain .notHolder code 0)
  | .held h =>
    if h.link = k then
      if (s.port p).credit = 0 then .answered s (Answer.plain .overCredit code 0)
      else ⟨s.mapPort p (Port.stage payload), none⟩
    else .answered s (Answer.plain .notHolder code 0)

/-- A DATA frame at its handling event (R44, R47). -/
def State.performData (k : LinkId) (r : Resource) (rights : Rights) (payload : List Byte) (s : State) : Performed :=
  if !(rights.of (s.cls k)).data then .answered s (Answer.plain .denied r.code 0)
  else match r with
    | .zone _ => .answered s (Answer.plain .badRequest r.code 0)
    | .port p =>
      if s.isPanel (.port p) then .answered s (Answer.plain .badRequest r.code 0)
      else if payload.length = 0 || Config.maxJobData < payload.length then .answered s (Answer.plain .length r.code 0)
      else s.takeData k p payload

/-- DATA (R47). -/
def execData (k : LinkId) (s : State) : Host.Outcome State Fault Refusal :=
  s.live (match (s.link k).hand with
    | some ⟨tag, address, .data r rights payload⟩ =>
      s.handle k ⟨tag, address, .data r rights payload⟩ (some r) (State.performData k r rights payload)
    | _ => s)

/-! ## STATUS -/

/-- Lease state codes (11.6.4). -/
def Lease.code : Lease → Byte
  | .free => 0
  | .held _ => 1
  | .releasing _ => 2

/-- The resource state byte of a report (11.3.2). -/
def State.stateByte (s : State) (r : Resource) : Byte :=
  match r with
  | .port p => (s.port p).state.code
  | .zone z => flagByte (s.zone z).enabled

/-- The credit byte of a report: of a JOB port held by the asker (R48). -/
def State.creditByte (s : State) (k : LinkId) (r : Resource) : Byte :=
  match r with
  | .port p => if s.holder r = some k then byteOf (s.port p).credit else 0
  | .zone _ => 0

/-- The report of a STATUS answer (R48, R102, 11.3.2). -/
def State.statusReport (s : State) (k : LinkId) (r : Resource) : List Byte :=
  [(s.lease r).code, flagByte (s.holder r == some k), byteOf (s.position k r), byteOf (s.queueOf r).length,
    s.stateByte r, s.creditByte k r]

/-- A STATUS at its handling event (R44, R48). -/
def State.performStatus (k : LinkId) (r : Resource) (rights : Rights) (s : State) : Performed :=
  if !(rights.of (s.cls k)).status then .answered s (Answer.plain .denied r.code 0)
  else .answered s ⟨.done, r.code, 0, s.statusReport k r, none⟩

/-- STATUS (R48). -/
def execStatus (k : LinkId) (s : State) : Host.Outcome State Fault Refusal :=
  s.live (match (s.link k).hand with
    | some ⟨tag, address, .status r rights⟩ =>
      s.handle k ⟨tag, address, .status r rights⟩ (some r) (State.performStatus k r rights)
    | _ => s)

end Sys2Proof.Machine
end

