-- ==== Sys2Proof/Machine/Management.lean ====
section
/-! DEFINITION. The management unit (chapter 9): the handling events of the fifteen management commands. -/

namespace Sys2Proof.Machine

/-! ## The execution of a command -/

/-- The resource number in an answer of the management unit (R163). -/
def namedCode : Option Resource → Byte
  | none => noResource
  | some r => r.code

/-- A command answered DONE. -/
def Performed.done (s : State) (r : Option Resource) (detail : Byte) : Performed :=
  .answered s (Answer.plain .done (namedCode r) detail)

/-- A command that fails check 2 of R163. -/
def Performed.range (s : State) (r : Option Resource) : Performed :=
  .answered s (Answer.plain .range (namedCode r) 0)

/-- The management command in hand is executed (R49, R163): check 1 is made here, checks 2 and 3 by the command, which
is given the operands. Another frame in hand, or none, makes this no event of the link (log entry 5). -/
def State.manage (s : State) (k : LinkId) (cmd : MgmtCmd) (perform : List Byte → State → Performed) : State :=
  match (s.link k).hand with
  | some ⟨tag, address, .mgmt c payload⟩ =>
    if c = cmd then
      s.handle k ⟨tag, address, .mgmt c payload⟩ (cmd.names payload) (fun t =>
        if payload.length = cmd.length then perform (payload.drop 1) t
        else .answered t (Answer.plain .badRequest noResource 0))
    else s
  | _ => s

/-! ## Windows and zones -/

/-- Replace an entry of the window table, every field at once (R66). -/
def State.setWindow (s : State) (i : WindowId) (w : Window) : State := { s with windows := s.windows.set i.val w }

/-- LOAD_WINDOW past check 1 (R66, R67). -/
def State.loadWindow (ops : List Byte) (s : State) : Performed :=
  match ops with
  | [] => .range s none
  | entry :: record =>
    match indexOf 17 entry with
    | none => .range s none
    | some i =>
      match Window.ofBytes i record with
      | none => .range s none
      | some w => .done (s.setWindow i w) none 0

/-- LOAD_WINDOW (R66). -/
def execLoadWindow (k : LinkId) (s : State) : Host.Outcome State Fault Refusal :=
  s.live (s.manage k .loadWindow State.loadWindow)

/-- What the load of a zone does once accepted (R165). -/
def State.replaceZone (s : State) (z : ZoneId) (x : Zone) : State :=
  let t := s.setZone z x
  if x.enabled then t.grantHead (.zone z) else t.dropWaits (.zone z)

/-- LOAD_ZONE past check 1 (R165). -/
def State.loadZone (ops : List Byte) (s : State) : Performed :=
  match ops with
  | [] => .range s none
  | index :: record =>
    match indexOf 32 index with
    | none => .range s none
    | some z =>
      match Zone.ofBytes record with
      | none => .range s (some (.zone z))
      | some x =>
        if (s.lease (.zone z)).holding.isSome then .answered s (Answer.plain .inUse (Resource.zone z).code 0)
        else .done (s.replaceZone z x) (some (.zone z)) 0

/-- LOAD_ZONE (R165). -/
def execLoadZone (k : LinkId) (s : State) : Host.Outcome State Fault Refusal :=
  s.live (s.manage k .loadZone State.loadZone)

/-! ## Port profiles -/

/-- A port takes a new profile (R167). Each direction completes the character in progress in its old format: the
transmitter's format changes at once when it is at rest, and the receiver's old formats are kept for the character it
is in, which any of the loads since the last character may have met (R103). -/
def Port.load (x : PortProfile) (p : Port) : Port :=
  { p with
    profile := x, flow := .running, rxOldFormats := p.profile.format :: p.rxOldFormats,
    txFormat := if p.tx = .rest then x.format else p.txFormat }

/-- LOAD_PORT past check 1 (R166, R167). -/
def State.loadPort (ops : List Byte) (s : State) : Performed :=
  match ops with
  | [] => .range s none
  | index :: record =>
    match indexOf 6 index with
    | none => .range s none
    | some p =>
      match PortProfile.ofBytes record with
      | none => .range s (some (.port p))
      | some x =>
        if (s.port p).state = .disabled then .done (s.mapPort p (Port.load x)) (some (.port p)) 0
        else .answered s (Answer.plain .inUse (Resource.port p).code 0)

/-- LOAD_PORT (R167). -/
def execLoadPort (k : LinkId) (s : State) : Host.Outcome State Fault Refusal :=
  s.live (s.manage k .loadPort State.loadPort)

/-! ## Link profiles -/

/-- A profile that keeps the part manageable (R170). -/
def LinkProfile.manages (x : LinkProfile) : Bool := x.enabled && x.mgmt

/-- With x in place of j's profile, no link profile would have both enabled and management right set (R170). -/
def State.locksOut (s : State) (j : LinkId) (x : LinkProfile) : Bool :=
  !(linkIds.any (fun i => if i = j then x.manages else (s.link i).profile.manages))

/-- The receiver and the transmitter of a link are given a rate (R17): at once in HUNT or ARMED, otherwise at the next
frame boundary. -/
def Link.newRate (r : LinkRate) (l : Link) : Link :=
  let l1 := { l with txNewRate := some r }
  match l.rx with
  | .hunt => { l1 with rxRate := r, rxNewRate := none }
  | .armed => { l1 with rx := .hunt, rxRate := r, rxNewRate := none }
  | .frame _ _ => { l1 with rxNewRate := some r }

/-- Every field of a link profile is replaced at once, and a changed rate is given to the link (R17, R169). -/
def Link.loadProfile (x : LinkProfile) (l : Link) : Link :=
  let l1 := { l with profile := x }
  if x.rate = l.profile.rate then l1 else l1.newRate x.rate

/-- The mark of an answer is taken off when the self-disable it was to end is cleared (log entry 8). -/
def unmarkSelfDisable (m : Option Awaited) : Option Awaited :=
  match m with
  | some .restart => some .restart
  | some .selfDisable => none
  | none => none

/-- A pending self-disable is cleared (R171): the link stays UP, and its unsent answer is awaited no longer. -/
def Link.clearSelfDisable (l : Link) : Link :=
  { l with
    selfDisable := none,
    control := l.control.map (fun c => { c with mark := unmarkSelfDisable c.mark }),
    tx := match l.tx with
      | .rest => .rest
      | .idleFill => .idleFill
      | .sending f w (.control m) => .sending f w (.control (unmarkSelfDisable m))
      | .sending f w .touch => .sending f w .touch
      | .sending f w .data => .sending f w .data }

/-- What enabling a link by a load does (R33, R171). -/
def Link.enable (l : Link) : Link :=
  match l.selfDisable with
  | some _ => l.clearSelfDisable
  | none => if l.present then l.comeUp else l

/-- A LOAD_LINK of link j accepted from link k (R169, R171), with the mark on its answer. -/
def State.replaceLink (s : State) (k j : LinkId) (x : LinkProfile) : State × Option Awaited :=
  let old := s.link j
  let t := s.mapLink j (Link.loadProfile x)
  if x.enabled = old.profile.enabled then (t, none)
  else if x.enabled then (t.mapLink j Link.enable, none)
  else if j = k then (t.mapLink j (fun l => { l with selfDisable := some (.running 0) }), some .selfDisable)
  else if old.up then (t.tearDown j, none)
  else (t, none)

/-- LOAD_LINK past check 1 (R168, R169, R170). -/
def State.loadLink (k : LinkId) (ops : List Byte) (s : State) : Performed :=
  match ops with
  | [] => .range s none
  | index :: record =>
    match indexOf 8 index with
    | none => .range s none
    | some j =>
      match LinkProfile.ofBytes record with
      | none => .range s none
      | some x =>
        if s.locksOut j x then .answered s (Answer.plain .lockout noResource 0)
        else ⟨(s.replaceLink k j x).1, some ⟨.done, noResource, 0, [], (s.replaceLink k j x).2⟩⟩

/-- LOAD_LINK (R169). -/
def execLoadLink (k : LinkId) (s : State) : Host.Outcome State Fault Refusal :=
  s.live (s.manage k .loadLink (State.loadLink k))

/-! ## The report link -/

/-- A PORT_STATE notice. -/
def NoticeBody.isPortState : NoticeBody → Bool
  | .portState _ => true
  | .revoked _ => false
  | .dropped _ => false
  | .released => false
  | .granted => false
  | .suspended => false
  | .resumed => false
  | .credit _ => false

/-- The PORT_STATE notices pending at the previous report link are withdrawn (R57). -/
def State.withdrawPortStates (s : State) : State :=
  match s.reportLink with
  | none => s
  | some j => s.mapLink j (fun l => { l with notices := l.notices.filter (fun n => !n.body.isPortState) })

/-- A PORT_STATE notice with the present state of a port. -/
def State.portStateNotice (s : State) (p : PortId) : Notice := ⟨.portState (s.port p).state, .port p, 0⟩

/-- The report link is set, and a full account enters its set (R57, R172). -/
def State.setReportLink (s : State) (v : Option LinkId) : State :=
  let t := { s.withdrawPortStates with reportLink := v }
  match v with
  | none => t
  | some j => portIds.foldl (fun u p => u.enterNotice j (u.portStateNotice p)) t

/-- SET_REPORT past check 1 (R172, R182). -/
def State.setReport (ops : List Byte) (s : State) : Performed :=
  match ops with
  | [] => .range s none
  | b :: _ =>
    match linkOrNone b with
    | none => .range s none
    | some v => .done (s.setReportLink v) none 0

/-- SET_REPORT (R172). -/
def execSetReport (k : LinkId) (s : State) : Host.Outcome State Fault Refusal :=
  s.live (s.manage k .setReport State.setReport)

/-! ## Reads -/

/-- A read answered DONE with its data (R173, 11.5.3). -/
def Performed.reads (s : State) (r : Option Resource) (bytes : List Byte) : Performed :=
  .answered s ⟨.done, namedCode r, 0, bytes, none⟩

/-- A read of an indexed record, refused RANGE when no index is given or it is out of range (R173). -/
def State.readIndexed {n : Nat} (s : State) (ops : List Byte) (names : Fin n → Option Resource)
    (bytes : Fin n → List Byte) : Performed :=
  match ops with
  | [] => .range s none
  | b :: _ =>
    match indexOf n b with
    | none => .range s none
    | some i => .reads s (names i) (bytes i)

/-- READ_WINDOW past check 1 (R66, R173). -/
def State.readWindow (ops : List Byte) (s : State) : Performed :=
  s.readIndexed (n := 17) ops (fun _ => none) (fun i => s.windows[i.val].bytes)

/-- READ_WINDOW (R173). -/
def execReadWindow (k : LinkId) (s : State) : Host.Outcome State Fault Refusal :=
  s.live (s.manage k .readWindow State.readWindow)

/-- READ_ZONE past check 1 (R173). -/
def State.readZone (ops : List Byte) (s : State) : Performed :=
  s.readIndexed (n := 32) ops (fun z => some (.zone z)) (fun z => (s.zone z).bytes)

/-- READ_ZONE (R173). -/
def execReadZone (k : LinkId) (s : State) : Host.Outcome State Fault Refusal :=
  s.live (s.manage k .readZone State.readZone)

/-- READ_PORT past check 1 (R173). -/
def State.readPort (ops : List Byte) (s : State) : Performed :=
  s.readIndexed (n := 6) ops (fun p => some (.port p)) (fun p => (s.port p).profile.bytes)

/-- READ_PORT (R173). -/
def execReadPort (k : LinkId) (s : State) : Host.Outcome State Fault Refusal :=
  s.live (s.manage k .readPort State.readPort)

/-- The profile of a link as it is read: with a pending self-disable, enabled reads clear (R173, R182). -/
def Link.readProfile (l : Link) : LinkProfile :=
  { l.profile with enabled := l.profile.enabled && l.selfDisable.isNone }

/-- READ_LINK past check 1 (R173). -/
def State.readLink (ops : List Byte) (s : State) : Performed :=
  s.readIndexed (n := 8) ops (fun _ => none) (fun j => (s.link j).readProfile.bytes)

/-- READ_LINK (R173). -/
def execReadLink (k : LinkId) (s : State) : Host.Outcome State Fault Refusal :=
  s.live (s.manage k .readLink State.readLink)

/-- Holder link, holder class and claim tag of a lease record, as they are read (11.5.3). -/
def Lease.holdingBytes (l : Lease) : List Byte :=
  match l.holding with
  | none => [0xFF, 0xFF, 0x00]
  | some h => [byteOf h.link.val, byteOf h.cls.rank, h.tag]

/-- The idle timer remaining of a resource; absent for every zone (R71). -/
def State.idleTimerOf (s : State) (r : Resource) : Option Nat :=
  match r with
  | .port p => (s.port p).idleTimer
  | .zone _ => none

/-- The lease record and wait queue of a resource, as READ_LEASE returns them (R102, 11.5.3). -/
def State.leaseBytes (s : State) (r : Resource) : List Byte :=
  (s.lease r).code :: ((s.lease r).holdingBytes ++ timerBytes (s.idleTimerOf r) ++ [byteOf (s.queueOf r).length] ++
    (s.queueOf r).flatMap Wait.bytes)

/-- READ_LEASE past check 1 (R102, R173). -/
def State.readLease (ops : List Byte) (s : State) : Performed :=
  match ops with
  | [] => .range s none
  | b :: _ =>
    match Resource.ofCode b with
    | none => .range s none
    | some r => .reads s (some r) (s.leaseBytes r)

/-- READ_LEASE (R173). -/
def execReadLease (k : LinkId) (s : State) : Host.Outcome State Fault Refusal :=
  s.live (s.manage k .readLease State.readLease)

/-- The counters of a link are read, and set to zero with the clear flag (R37, R174). -/
def State.linkCounts (s : State) (j : LinkId) (clear : Bool) : Performed :=
  .reads (if clear then s.mapLink j (fun l => l.mapCounters (fun _ => LinkCounters.zero)) else s) none
    (s.link j).counters.bytes

/-- The counters of a port are read, and set to zero with the clear flag (R123, R162, R174). -/
def State.portCounts (s : State) (p : PortId) (clear : Bool) : Performed :=
  .reads (if clear then s.mapPort p (fun x => x.mapCounters (fun _ => PortCounters.zero)) else s) (some (.port p))
    (s.port p).counters.bytes

/-- READ_COUNTS of a link past check 1 (R174). -/
def State.readLinkCounts (s : State) (index flag : Byte) : Performed :=
  match indexOf 8 index, flagOf flag with
  | some j, some clear => s.linkCounts j clear
  | _, _ => .range s none

/-- READ_COUNTS of a port past check 1 (R174). -/
def State.readPortCounts (s : State) (index flag : Byte) : Performed :=
  match indexOf 6 index with
  | none => .range s none
  | some p =>
    match flagOf flag with
    | none => .range s (some (.port p))
    | some clear => s.portCounts p clear

/-- READ_COUNTS past check 1 (R174). -/
def State.readCounts (ops : List Byte) (s : State) : Performed :=
  match ops with
  | [kind, index, flag] =>
    if kind = 0 then s.readLinkCounts index flag
    else if kind = 1 then s.readPortCounts index flag
    else .range s none
  | _ => .range s none

/-- READ_COUNTS (R174). -/
def execReadCounts (k : LinkId) (s : State) : Host.Outcome State Fault Refusal :=
  s.live (s.manage k .readCounts State.readCounts)

/-! ## Revoke, enable and disable -/

/-- REVOKE past check 1 (R99, R175). -/
def State.manageRevoke (ops : List Byte) (s : State) : Performed :=
  match ops with
  | [] => .range s none
  | b :: _ =>
    match Resource.ofCode b with
    | none => .range s none
    | some r =>
      if (s.lease r).holding.isSome then .done (s.revoke r (.cause .managed)) (some r) 1 else .done s (some r) 0

/-- REVOKE (R175). -/
def execRevoke (k : LinkId) (s : State) : Host.Outcome State Fault Refusal :=
  s.live (s.manage k .revoke State.manageRevoke)

/-- A DISABLED port is enabled (R108, R144): IDLE when ready, otherwise OFFLINE. -/
def State.enable (s : State) (p : PortId) : State :=
  let t := match (s.port p).profile.kind with
    | .job => s.mapPort p (fun x => { x with flow := .running })
    | .panel => s
  if (t.port p).isReady then t.enterIdle p else t.setPortState p .offline

/-- ENABLE_PORT past check 1 (R176). -/
def State.enablePort (ops : List Byte) (s : State) : Performed :=
  match ops with
  | [] => .range s none
  | b :: _ =>
    match indexOf 6 b with
    | none => .range s none
    | some p =>
      if (s.port p).state = .disabled then .done (s.enable p) (some (.port p)) 0 else .done s (some (.port p)) 1

/-- ENABLE_PORT (R176). -/
def execEnablePort (k : LinkId) (s : State) : Host.Outcome State Fault Refusal :=
  s.live (s.manage k .enablePort State.enablePort)

/-- What a JOB port engine gives up when it is disabled (R107). -/
def Port.stop (p : Port) : Port :=
  { p with
    remembered := none, idleTimer := none, graceTimer := none, stallTimer := none, turnTimer := none, slot := none,
    paused := false, hold := false }

/-- A JOB port is disabled (R100, R107): revoke, drop, DISABLED, in one event. -/
def State.disableJob (s : State) (p : PortId) : State :=
  (((s.revokePort p (.cause .disabled)).dropWaits (.port p)).mapPort p Port.stop).setPortState p .disabled

/-- A PANEL port is disabled (R144, R160). -/
def State.disablePanel (s : State) (p : PortId) : State :=
  (if (s.port p).state = .idle then s.panelLeavesIdle p else s).setPortState p .disabled

/-- A port that is not DISABLED is disabled (R176). -/
def State.disable (s : State) (p : PortId) : State :=
  match (s.port p).profile.kind with
  | .job => s.disableJob p
  | .panel => s.disablePanel p

/-- DISABLE_PORT past check 1 (R176). -/
def State.disablePort (ops : List Byte) (s : State) : Performed :=
  match ops with
  | [] => .range s none
  | b :: _ =>
    match indexOf 6 b with
    | none => .range s none
    | some p =>
      if (s.port p).state = .disabled then .done s (some (.port p)) 1 else .done (s.disable p) (some (.port p)) 0

/-- DISABLE_PORT (R176). -/
def execDisablePort (k : LinkId) (s : State) : Host.Outcome State Fault Refusal :=
  s.live (s.manage k .disablePort State.disablePort)

/-! ## Restart -/

/-- A pending self-disable is overtaken by a RESTART (R171, log entry 6). -/
def Link.supersede (l : Link) : Link :=
  { l with selfDisable := if l.selfDisable.isSome then some .superseded else none }

/-- The restart is under way (R177). -/
def State.beginRestart (s : State) : State :=
  { s with restart := some 0, links := s.links.map Link.supersede }

/-- RESTART past check 1 (R177): its answer is marked. -/
def State.performRestart (_ops : List Byte) (s : State) : Performed :=
  .answered s.beginRestart ⟨.done, noResource, 0, [], some .restart⟩

/-- RESTART (R177). -/
def execRestart (k : LinkId) (s : State) : Host.Outcome State Fault Refusal :=
  s.live (s.manage k .restart State.performRestart)

end Sys2Proof.Machine
end

