-- ==== Sys2Proof/Machine/Ports.lean ====
section
/-! DEFINITION. The line and timer events of a port: changes of READY and FAULT (R104, R109, R111 to R113, R144), and
the expiries of its five timers (R95, R112, R116, R120, R135). -/

namespace Sys2Proof.Machine

/-! ## Readiness outside a job -/

/-- A port goes to OFFLINE; the turnaround timer of a SETTLING port becomes absent (R109, R116). -/
def State.goOffline (s : State) (p : PortId) : State :=
  (s.mapPort p (fun x => { x with turnTimer := none })).setPortState p .offline

/-- The state of a PANEL port follows its readiness (R144, R148, R160). -/
def State.panelFollows (s : State) (p : PortId) (wasReady : Bool) : State :=
  let nowReady := (s.port p).isReady
  match (s.port p).state with
  | .offline => if !wasReady && nowReady then s.enterIdle p else s
  | .idle => if wasReady && !nowReady then (s.panelLeavesIdle p).setPortState p .offline else s
  | .disabled => s
  | .opened => s
  | .suspended => s
  | .closing => s
  | .settling => s

/-! ## READY -/

/-- What a change of the READY line state does to a JOB port (R108, R109, R113, R116). -/
def State.readyMoves (s : State) (p : PortId) (level wasReady : Bool) : State :=
  let nowReady := (s.port p).isReady
  match (s.port p).state with
  | .disabled => s
  | .offline => if !wasReady && nowReady then s.enterIdle p else s
  | .idle => if wasReady && !nowReady then s.goOffline p else s
  | .settling => if wasReady && !nowReady then s.goOffline p else s
  | .opened => if level then s else s.revokePort p (.cause .offline)
  | .closing => if level then s else s.revokePort p (.cause .offline)
  | .suspended => if level then s else s.revokePort p (.cause .offline)

/-- The READY line state becomes the level of its line. -/
def Port.takeReady (x : Port) : Port := { x with ready := x.readyPin, readyTicks := 0 }

/-- A READY level is taken into the line state (R104); a level that is the line state already is no change. -/
def State.takeReady (s : State) (p : PortId) : State :=
  let level := (s.port p).readyPin
  let t := s.mapPort p Port.takeReady
  if (s.port p).ready = level then t
  else match (s.port p).profile.kind with
    | .job => t.readyMoves p level (s.port p).isReady
    | .panel => t.panelFollows p (s.port p).isReady

/-- READY_CHANGE_TAKEN (R104, R180): a change held to its tenth tick is taken. The level is the one the line has from then
on; where it is another than before, the count of the filter begins again (log entry 3). -/
def execReadyChangeTaken (p : PortId) (level : Bool) (s : State) : Host.Outcome State Fault Refusal :=
  let t := s.whenDue (.ready p) (s.takeReady p)
  s.live (if (s.port p).readyPin = level then t else t.mapPort p (Port.putReady level))

/-! ## FAULT -/

/-- A notice to the holder of a port, with its claim tag. -/
def State.tellHolder (s : State) (p : PortId) (body : NoticeBody) : State :=
  match (s.lease (.port p)).holding with
  | none => s
  | some h => s.enterNotice h.link ⟨body, .port p, h.tag⟩

/-- A job is suspended (R111). -/
def State.suspend (s : State) (p : PortId) : State :=
  let x := s.port p
  let s1 := s.mapPort p (fun y =>
    { y with remembered := some x.state, graceTimer := some (x.profile.faultGrace.toNat * 1000) })
  ((s1.setPortState p .suspended).tellHolder p .suspended).mapPort p Port.judge

/-- FAULT asserted on an OPEN or CLOSING port (R111): suspended, or revoked at once with a grace of 0. -/
def State.faultStrikes (s : State) (p : PortId) : State :=
  if (s.port p).profile.faultGrace = 0 then s.revokePort p (.cause .fault) else s.suspend p

/-- A suspended job resumes (R112). A CLOSING job with nothing left to send completes its drain in this event (R131). -/
def State.resume (s : State) (p : PortId) : State :=
  let st := (s.port p).remembered.getD .opened
  let s1 := s.mapPort p (fun y => { y with remembered := none, graceTimer := none })
  let s2 := (s1.setPortState p st).tellHolder p .resumed
  if st = .closing && (s2.port p).fillOrder.isEmpty then s2.completeDrain p else s2.mapPort p Port.judge

/-- What a change of the FAULT line state does to a JOB port (R108, R109, R111, R112, R116). -/
def State.faultMoves (s : State) (p : PortId) (level wasReady : Bool) : State :=
  let nowReady := (s.port p).isReady
  match (s.port p).state with
  | .disabled => s
  | .offline => if !wasReady && nowReady then s.enterIdle p else s
  | .idle => if wasReady && !nowReady then s.goOffline p else s
  | .settling => if wasReady && !nowReady then s.goOffline p else s
  | .opened => if level && (s.port p).ready then s.faultStrikes p else s
  | .closing => if level && (s.port p).ready then s.faultStrikes p else s
  | .suspended => if !level && (s.port p).ready then s.resume p else s

/-- The FAULT line state becomes the level of its line. -/
def Port.takeFault (x : Port) : Port := { x with fault := x.faultPin, faultTicks := 0 }

/-- A FAULT level is taken into the line state (R104); a level that is the line state already is no change. -/
def State.takeFault (s : State) (p : PortId) : State :=
  let level := (s.port p).faultPin
  let t := s.mapPort p Port.takeFault
  if (s.port p).fault = level then t
  else match (s.port p).profile.kind with
    | .job => t.faultMoves p level (s.port p).isReady
    | .panel => t.panelFollows p (s.port p).isReady

/-- FAULT_CHANGE_TAKEN (R104, R180), with a level as READY_CHANGE_TAKEN has one. -/
def execFaultChangeTaken (p : PortId) (level : Bool) (s : State) : Host.Outcome State Fault Refusal :=
  let t := s.whenDue (.fault p) (s.takeFault p)
  s.live (if (s.port p).faultPin = level then t else t.mapPort p (Port.putFault level))

/-! ## Timers -/

/-- The idle timer of a port expires (R95). -/
def State.expireIdle (s : State) (p : PortId) : State :=
  (s.mapPort p (fun x => { x with idleTimer := none })).revokePort p (.cause .idle)

/-- IDLE_TIMER_EXPIRY (R95, R179): a tick has brought the timer to 0. -/
def execIdleTimerExpiry (p : PortId) (s : State) : Host.Outcome State Fault Refusal :=
  s.live (s.whenDue (.idle p) (s.expireIdle p))

/-- The grace timer of a port expires (R112). -/
def State.expireGrace (s : State) (p : PortId) : State :=
  (s.mapPort p (fun x => { x with graceTimer := none })).revokePort p (.cause .fault)

/-- GRACE_TIMER_EXPIRY (R112, R179). -/
def execGraceTimerExpiry (p : PortId) (s : State) : Host.Outcome State Fault Refusal :=
  s.live (s.whenDue (.grace p) (s.expireGrace p))

/-- The stall timer of a port expires (R120). -/
def State.expireStall (s : State) (p : PortId) : State :=
  (s.mapPort p (fun x => { x with stallTimer := none })).revokePort p (.cause .stall)

/-- STALL_TIMER_EXPIRY (R120, R179). -/
def execStallTimerExpiry (p : PortId) (s : State) : Host.Outcome State Fault Refusal :=
  s.live (s.whenDue (.stall p) (s.expireStall p))

/-- The turnaround timer of a SETTLING port expires (R83, R116). -/
def State.expireTurn (s : State) (p : PortId) : State :=
  let t := s.mapPort p (fun x => { x with turnTimer := none })
  if (s.port p).state = .settling then t.enterIdle p else t

/-- TURNAROUND_TIMER_EXPIRY (R116, R179). -/
def execTurnaroundTimerExpiry (p : PortId) (s : State) : Host.Outcome State Fault Refusal :=
  s.live (s.whenDue (.turn p) (s.expireTurn p))

/-- The gather timer of a port expires (R135). -/
def State.expireGather (s : State) (p : PortId) : State :=
  (s.mapPort p (fun x => { x with gatherTimer := none })).handFilling p

/-- GATHER_TIMER_EXPIRY (R135, R179). -/
def execGatherTimerExpiry (p : PortId) (s : State) : Host.Outcome State Fault Refusal :=
  s.live (s.whenDue (.gather p) (s.expireGather p))

end Sys2Proof.Machine
end

