-- ==== Sys2Proof/Machine/Panels.lean ====
section
/-! DEFINITION. The panel engine (chapter 8): report assembly, zone lookup and the contact table. -/

namespace Sys2Proof.Machine

/-! ## Lookup -/

/-- A report from panel p at x, y matches a zone (R150). -/
def Zone.matches (z : Zone) (p : PortId) (x y : Coord) : Bool :=
  z.enabled && z.panel == p && (x &&& ~~~z.xMask == z.xBase &&& ~~~z.xMask) &&
    (y &&& ~~~z.yMask == z.yBase &&& ~~~z.yMask)

/-- The deciding zone: the lowest-numbered that matches (R150). -/
def State.zoneAt (s : State) (p : PortId) (x y : Coord) : Option ZoneId :=
  zoneIds.find? (fun z => (s.zone z).matches p x y)

/-- The finding of a lookup: a zone that is HELD with its holder, or none (R150). -/
def State.heldZoneAt (s : State) (p : PortId) (x y : Coord) : Option (ZoneId × LinkId) :=
  match s.zoneAt p x y with
  | none => none
  | some z =>
    match s.lease (.zone z) with
    | .held h => some (z, h.link)
    | .free => none
    | .releasing _ => none

/-! ## Delivery -/

/-- A report goes to the stray link with zone 0FFH (R158). -/
def State.stray (s : State) (p : PortId) (ph : Phase) (c : ContactId) (x y : Coord) : State :=
  match (s.port p).profile.strayLink with
  | none => s
  | some k => s.queueReport k ⟨none, p, ph, c, x, y⟩

/-- A report of a CAPTURED contact is forwarded to the holder of its zone (R157). -/
def State.forward (s : State) (z : ZoneId) (p : PortId) (ph : Phase) (c : ContactId) (x y : Coord) : State :=
  match s.holder (.zone z) with
  | none => s
  | some k => s.queueReport k ⟨some z, p, ph, c, x, y⟩

/-- The state of a contact changes; its last coordinates stay. -/
def State.setContactState (s : State) (p : PortId) (c : ContactId) (st : ContactState) : State :=
  s.setContact p c { s.contact p c with state := st }

/-- A report of a FREE contact is looked up (table of R153): captured and forwarded, or detached and sent stray. -/
def State.lookUp (s : State) (p : PortId) (ph : Phase) (c : ContactId) (x y : Coord) : State :=
  match s.heldZoneAt p x y with
  | some (z, k) => (s.setContactState p c (.captured z)).queueReport k ⟨some z, p, ph, c, x, y⟩
  | none =>
    ((s.setContactState p c .detached).mapPort p (fun q =>
      q.mapCounters (fun n => { n with strayTouches := bump n.strayTouches }))).stray p ph c x y

/-! ## Reports -/

/-- One more on the malformed counter (R162). -/
def Port.countMalformed (p : Port) : Port := p.mapCounters (fun n => { n with malformed := bump n.malformed })

/-- A DOWN report (R153). -/
def State.downReport (s : State) (p : PortId) (c : ContactId) (x y : Coord) : State :=
  let s1 := match (s.contact p c).state with
    | .captured z => match s.holder (.zone z) with | none => s | some k => s.syntheticUp p c z k
    | .free => s
    | .detached => s
  s1.lookUp p .down c x y

/-- A MOVE report (R154). -/
def State.moveReport (s : State) (p : PortId) (c : ContactId) (x y : Coord) : State :=
  match (s.contact p c).state with
  | .captured z => s.forward z p .move c x y
  | .detached => s.stray p .move c x y
  | .free => s.lookUp p .move c x y

/-- An UP report (R155). -/
def State.upReport (s : State) (p : PortId) (c : ContactId) (x y : Coord) : State :=
  match (s.contact p c).state with
  | .captured z => (s.forward z p .up c x y).setContactState p c .free
  | .detached => (s.stray p .up c x y).setContactState p c .free
  | .free => s.mapPort p Port.countMalformed

/-- The last coordinates are set at the end of a report's handling (R156). -/
def State.setLast (s : State) (p : PortId) (c : ContactId) (x y : Coord) : State :=
  s.setContact p c { s.contact p c with lastX := x, lastY := y }

/-- A report is handled by the contact table (R153 to R156). -/
def State.handleReport (s : State) (p : PortId) (ph : Phase) (c : ContactId) (x y : Coord) : State :=
  State.setLast
    (match ph with
      | .down => s.downReport p c x y
      | .move => s.moveReport p c x y
      | .up => s.upReport p c x y)
    p c x y

/-- A complete report is judged (R146, R181). -/
def State.completeReport (s : State) (p : PortId) (lead d1 d2 d3 d4 : Byte) : State :=
  match leadPhase lead, leadContact lead with
  | some ph, some c =>
    (s.mapPort p (fun q => q.mapCounters (fun n => { n with reports := bump n.reports }))).handleReport p ph c
      (coordFrom d1 d2) (coordFrom d3 d4)
  | _, _ => s.mapPort p Port.countMalformed

/-! ## Assembly -/

/-- The assembler takes a new state. -/
def Port.assemble (a : Assembler) (p : Port) : Port := { p with assembler := a }

/-- A data byte of the report in assembly (R146). -/
def State.reportByte (s : State) (p : PortId) (lead : Byte) (data : List Byte) (b : Byte) : State :=
  match data with
  | [d1, d2, d3] => (s.mapPort p (Port.assemble .waiting)).completeReport p lead d1 d2 d3 b
  | _ => s.mapPort p (Port.assemble (.assembling lead (data ++ [b])))

/-- A byte without error in IDLE (R146). -/
def State.assembleByte (s : State) (p : PortId) (b : Byte) : State :=
  match (s.port p).assembler with
  | .waiting =>
    if b.msb then s.mapPort p (Port.assemble (.assembling b [])) else s.mapPort p Port.countMalformed
  | .assembling lead data =>
    if b.msb then s.mapPort p (fun q => (q.assemble (.assembling b [])).countMalformed)
    else s.reportByte p lead data b

/-- An error byte or a break in IDLE (R147). -/
def Port.damageReport (p : Port) : Port :=
  match p.assembler with
  | .waiting => p
  | .assembling _ _ => (p.assemble .waiting).countMalformed

/-- A byte at a PANEL port (R146, R147, R148). -/
def State.panelByte (s : State) (p : PortId) (b : Byte) (error : Bool) : State :=
  if (s.port p).state = .idle then
    if error then s.mapPort p Port.damageReport else s.assembleByte p b
  else s

end Sys2Proof.Machine
end

