-- ==== Sys2Proof/Machine/Characters.lean ====
section
/-! DEFINITION. The characters of a port line: a character received (R122, R134, R139), a character sent (R117, R128,
R129), and BUSY found negated (R118). -/

namespace Sys2Proof.Machine

/-! ## Characters received -/

/-- What the receiver counts of a byte with errors (R122). -/
def PortCounters.countErrors (parity framing : Bool) (n : PortCounters) : PortCounters :=
  { n with
    parityErrors := if parity then bump n.parityErrors else n.parityErrors,
    framingErrors := if framing then bump n.framingErrors else n.framingErrors }

/-- A byte that is to be stored in the filling buffer (R134), or an overrun (R139). -/
def State.storeByte (s : State) (p : PortId) (b : Byte) : State :=
  match (s.port p).filling with
  | none => s.mapPort p (fun x => x.mapCounters (fun n => { n with overruns := bump n.overruns }))
  | some (i, bytes) =>
    let t := s.mapPort p (fun x =>
      { x.setInb i (.filling (bytes ++ [b])) with gatherTimer := some x.profile.gatherTime.toNat })
    if (s.port p).frameSize = some (bytes.length + 1) then t.handFilling p else t.mapPort p Port.judge

/-- A byte that is no code: stored while a job is open, otherwise a stray byte (R122). -/
def State.dataByte (s : State) (p : PortId) (b : Byte) : State :=
  if (s.port p).state.isJob then s.storeByte p b
  else s.mapPort p (fun x => x.mapCounters (fun n => { n with strayBytes := bump n.strayBytes }))

/-- The outbound flow state changes, and with it whether outbound is held (R119, R120). -/
def Port.setFlow (f : FlowState) (p : Port) : Port := Port.judge { p with flow := f }

/-- A byte at a JOB port (R119, R122). -/
def State.jobByte (s : State) (p : PortId) (b : Byte) (error : Bool) : State :=
  let x := s.port p
  if x.profile.flow = .codes then
    if !error && b = x.profile.pauseCode then s.mapPort p (Port.setFlow .stopped)
    else if !error && b = x.profile.resumeCode then s.mapPort p (Port.setFlow .running)
    else (if x.profile.resumeAny then s.mapPort p (Port.setFlow .running) else s).dataByte p b
  else s.dataByte p b

/-- A break (R122); at an IDLE PANEL port it ends a report in assembly (R147). -/
def State.takeBreak (s : State) (p : PortId) : State :=
  s.mapPort p (fun x =>
    let y := x.mapCounters (fun n => { n with breaks := bump n.breaks })
    match x.profile.kind with
    | .job => y
    | .panel => if x.state = .idle then y.damageReport else y)

/-- The format of a received character: the one it was begun in (R103), which is the present one when no LOAD_PORT came
since, else the one that the first LOAD_PORT since then replaced. -/
def Port.rxFormat (p : Port) (c : RxChar) : LineFormat :=
  (p.profile.format :: p.rxOldFormats).getD c.loads p.profile.format

/-- A character completed by the receiver of a port (R122). The next begins after it, so no format replaced before is
needed any longer (R103). -/
def State.takeCharacter (s : State) (p : PortId) (c : RxChar) : State :=
  let f := (s.port p).rxFormat c
  let s1 := s.mapPort p (fun x => { x with rxOldFormats := [] })
  if RxChar.isBreak f c then s1.takeBreak p
  else
    let s2 := s1.mapPort p (fun x => x.mapCounters (PortCounters.countErrors (RxChar.parityError f c) (RxChar.framingError c)))
    let error := RxChar.parityError f c || RxChar.framingError c
    match (s.port p).profile.kind with
    | .job => s2.jobByte p c.data error
    | .panel => s2.panelByte p c.data error

/-- PORT_CHARACTER_RECEIVED (R122). -/
def execPortCharacterReceived (p : PortId) (c : RxChar) (s : State) : Host.Outcome State Fault Refusal :=
  s.live (s.takeCharacter p c)

/-! ## Characters sent -/

/-- A byte of a buffer has been sent and others remain (R128). -/
def Port.advance (b : BufId) (o : OutBuf) (p : Port) : Port := p.setOutb b (some { o with sent := o.sent + 1 })

/-- An outbound buffer becomes free and the credit rises (step 1 of R129). -/
def Port.freeOut (b : BufId) (p : Port) : Port :=
  { p.setOutb b none with fillOrder := p.fillOrder.filter (fun x => !(x == b)), credit := p.credit + 1 }

/-- The CREDIT notice of a drain, made for the holder of a HELD lease only (step 2 of R129, R130). -/
def State.noticeCredit (s : State) (p : PortId) : State :=
  match s.lease (.port p) with
  | .held h => s.enterNotice h.link ⟨.credit 1, .port p, h.tag⟩
  | .free => s
  | .releasing _ => s

/-- An outbound buffer is drained (R129). -/
def State.drain (s : State) (p : PortId) (b : BufId) : State :=
  let t := (s.mapPort p (Port.freeOut b)).noticeCredit p
  if (t.port p).state = .closing && (t.port p).fillOrder.isEmpty then t.completeDrain p else t.mapPort p Port.judge

/-- The character in progress, if any, has left the line (R117, R128). -/
def State.characterDone (s : State) (p : PortId) : State :=
  let t := s.mapPort p (fun x => { x with tx := .rest })
  match (s.port p).tx with
  | .rest => t
  | .code _ => t
  | .tail _ => t
  | .job b _ =>
    match (s.port p).outb b with
    | none => t
    | some o => if o.sent + 1 < o.bytes.length then t.mapPort p (Port.advance b o) else t.drain p b

/-- The byte of job data that would be sent next: of the buffer at the head of the fill order (R128). -/
def Port.nextByte (p : Port) : Option (BufId × Byte) :=
  match p.fillOrder with
  | [] => none
  | b :: _ => (p.outb b).bind (fun o => o.bytes[o.sent]?.map (fun x => (b, x)))

/-- The byte of a code in the slot (R121). -/
def Port.codeByte (p : Port) : FlowCode → Byte
  | .pause => p.profile.pauseCode
  | .resume => p.profile.resumeCode

/-- A character is begun in the format now in effect (R103). -/
def Port.begin (tx : PortTx) (b : Byte) (p : Port) : Port :=
  { p with tx := tx, txBits := charBits p.profile.format b, txFormat := p.profile.format }

/-- Job data is sent in the port's state (R117). -/
def PortState.sends : PortState → Bool
  | .opened => true
  | .closing => true
  | .disabled => false
  | .offline => false
  | .idle => false
  | .suspended => false
  | .settling => false

/-- The choice of a port transmitter between the code slot, job data and rest (R117). A PANEL port sends nothing
(R144), nor does a DISABLED port (R103). -/
def Port.choose (p : Port) : Port :=
  let q := { p with tx := .rest, txBits := [], txFormat := p.profile.format }
  if p.profile.kind = .panel || p.state = .disabled then q
  else match p.slot with
    | some c => Port.begin (.code (p.codeByte c)) (p.codeByte c) { q with slot := none }
    | none =>
      match (if p.state.sends && p.permits then p.nextByte else none) with
      | some (b, x) => q.begin (.job b x) x
      | none => q

/-- The BUSY line is found at a level. -/
def Port.readBusy (level : Bool) (p : Port) : Port := { p with busyPin := level }

/-- A character boundary of a port transmitter (R117): the character in progress is complete, BUSY is read, and the
next thing to send is chosen. -/
def State.portBoundary (s : State) (p : PortId) (busy : Bool) : State :=
  ((s.mapPort p (Port.readBusy busy)).characterDone p).mapPort p (fun x => x.choose.judge)

/-- PORT_CHARACTER_SENT (R117): at the end of a character, or of a moment at rest. -/
def execPortCharacterSent (p : PortId) (busy : Bool) (s : State) : Host.Outcome State Fault Refusal :=
  s.live (s.portBoundary p busy)

/-- BUSY is found negated (R118): under LINES a waiting byte of job data is begun. -/
def Port.busyNegated (p : Port) : Port :=
  let q := p.readBusy false
  Port.judge (if p.profile.flow = .lines && p.tx = .rest then q.choose else q)

/-- BUSY_NEGATED (R118). -/
def execBusyNegated (p : PortId) (s : State) : Host.Outcome State Fault Refusal :=
  s.live (s.mapPort p Port.busyNegated)

end Sys2Proof.Machine
end

