-- ==== Sys2Proof/Machine/Links.lean ====
section
/-! DEFINITION. The events of a kiosk link: a byte received, a change of PRESENT, the ends of idle characters and of
frames, and the bound of a self-disable (chapters 1 and 2, R171). -/

namespace Sys2Proof.Machine

/-- LINK_BYTE_RECEIVED (R1, R10 to R16): the byte sampled is passed on, whatever the stop bit; on a DOWN link every byte
is discarded. -/
def execLinkByteReceived (k : LinkId) (c : LinkChar) (s : State) : Host.Outcome State Fault Refusal :=
  s.live (if (s.link k).up then s.mapLink k (Link.receiveByte c.data) else s)

/-! ## Link state -/

/-- The present state of a link becomes the level of its PRESENT line (R9). -/
def Link.takePresent (l : Link) : Link := { l with present := l.presentPin, presentTicks := 0 }

/-- A change of the present state is taken: the link comes UP or goes DOWN, or stays as it was (R9, R33, R34). -/
def State.takePresent (s : State) (k : LinkId) : State :=
  let was := (s.link k).up
  let t := s.mapLink k Link.takePresent
  if was && !(t.link k).up then t.tearDown k
  else if !was && (t.link k).up then t.mapLink k Link.comeUp
  else t

/-- PRESENT_CHANGE_TAKEN (R9, R180): a change held to its tenth tick is taken. The level is the one the line has from
then on; where it is another than before, the count of the filter begins again (log entry 3). -/
def execPresentChangeTaken (k : LinkId) (level : Bool) (s : State) : Host.Outcome State Fault Refusal :=
  let t := s.whenDue (.present k) (s.takePresent k)
  s.live (if (s.link k).presentPin = level then t else t.mapLink k (Link.putPresent level))

/-- The pending self-disable of link k runs (R171). -/
def State.selfDisableRuns (s : State) (k : LinkId) : Bool :=
  match (s.link k).selfDisable with
  | some (.running _) => true
  | some .superseded => false
  | none => false

/-- SELF_DISABLE_TIMEOUT (R171): 100 ms have passed; the link goes DOWN and is torn down, its answer abandoned. -/
def execSelfDisableTimeout (k : LinkId) (s : State) : Host.Outcome State Fault Refusal :=
  s.live (s.whenDue (.selfDisable k) (s.tearDown k))

/-! ## The transmitter -/

/-- The bytes of the staging buffer a data queue entry refers to, as many as its count (R31). -/
def State.entryBytes (s : State) (e : DataEntry) : List Byte :=
  match (s.port e.port).inb e.buf with
  | .handed bytes _ _ => bytes.take e.count
  | .filling _ => []
  | .free => []

/-- A frame is begun on the line (R2, R31). -/
def Link.send (f : Frame) (source : TxSource) (l : Link) : Link := { l with tx := .sending f f.wire source }

/-- The transmitter's choice: control queue, touch queue, data queue, idle fill (R30). -/
def State.chooseFrame (s : State) (k : LinkId) : State :=
  s.mapLink k (fun l =>
    match l.control with
    | c :: cs => Link.send c.frame (.control c.mark) { l with control := cs }
    | [] =>
      match l.touch with
      | r :: rs => Link.send r.frame .touch { l with touch := rs }
      | [] =>
        match l.dataQ with
        | e :: _ => Link.send (dataFrame e.port (s.entryBytes e)) .data l
        | [] => { l with tx := .idleFill })

/-- A frame boundary: a waiting rate takes effect, HOLD-in is read on an UP link, and the next thing to send is chosen
(R17, R23, R30). -/
def State.boundary (s : State) (k : LinkId) (holdIn : Bool) : State :=
  let s1 := s.mapLink k (fun l =>
    { l with tx := .idleFill, holdInPin := holdIn, txRate := l.txNewRate.getD l.txRate, txNewRate := none })
  if (s1.link k).up && !holdIn then s1.chooseFrame k else s1

/-- IDLE_CHARACTER_END (R23, R30): a boundary while idle fill is sent. -/
def execIdleCharacterEnd (k : LinkId) (holdIn : Bool) (s : State) : Host.Outcome State Fault Refusal :=
  s.live (match (s.link k).tx with
    | .idleFill => s.boundary k holdIn
    | .rest => s
    | .sending _ _ _ => s)

/-- The entry whose DATA frame is complete leaves the data queue, and its buffer returns to its port (R29, R32, R137). -/
def State.finishEntry (s : State) (k : LinkId) : State :=
  match (s.link k).dataQ with
  | [] => s
  | e :: es => (s.mapLink k (fun l => { l with dataQ := es })).mapPort e.port (Port.returnBuffer e.buf)

/-- The consequence of a complete frame, and the boundary that follows (R32, R171, R177). -/
def State.completeFrame (s : State) (k : LinkId) (holdIn : Bool) (source : TxSource) : State :=
  match source with
  | .touch => s.boundary k holdIn
  | .data => (s.finishEntry k).boundary k holdIn
  | .control none => s.boundary k holdIn
  | .control (some .restart) => if s.restart.isSome then s.restartReset else s.boundary k holdIn
  | .control (some .selfDisable) =>
    if s.selfDisableRuns k then (s.tearDown k).boundary k holdIn else s.boundary k holdIn

/-- LINK_FRAME_COMPLETE (R32): the last check byte of the frame in transmission has been sent. -/
def execLinkFrameComplete (k : LinkId) (holdIn : Bool) (s : State) : Host.Outcome State Fault Refusal :=
  s.live (match (s.link k).tx with
    | .idleFill => s
    | .rest => s
    | .sending _ _ source => (s.mapLink k (fun l => { l with tx := .idleFill })).completeFrame k holdIn source)

end Sys2Proof.Machine
end

