-- ==== Sys2Proof/Machine/Clock.lean ====
section
/-! DEFINITION. What the part does with no command waiting (log entry 1): it takes an event that is due, or, with none
due, 1 ms passes. -/

namespace Sys2Proof.Machine

/-- What taking a due event does (R9, R95, R104, R112, R116, R120, R135, R171, R177). -/
def Due.take (s : State) : Due → State
  | .present k => s.takePresent k
  | .selfDisable k => s.tearDown k
  | .restart => s.restartReset
  | .ready p => s.takeReady p
  | .fault p => s.takeFault p
  | .idle p => s.expireIdle p
  | .grace p => s.expireGrace p
  | .stall p => s.expireStall p
  | .turn p => s.expireTurn p
  | .gather p => s.expireGather p

/-- The command of the table that takes a due event; that of a line carries the level the line has. -/
def Due.command (s : State) : Due → Instr
  | .present k => .presentChangeTaken k (s.link k).presentPin
  | .selfDisable k => .selfDisableTimeout k
  | .restart => .restartTimeout
  | .ready p => .readyChangeTaken p (s.port p).readyPin
  | .fault p => .faultChangeTaken p (s.port p).faultPin
  | .idle p => .idleTimerExpiry p
  | .grace p => .graceTimerExpiry p
  | .stall p => .stallTimerExpiry p
  | .turn p => .turnaroundTimerExpiry p
  | .gather p => .gatherTimerExpiry p

/-- One of a number of things, by the free value: every one of them is the choice of some value (log entry 2). -/
def chosen {α : Type} (n : Nat) (a : α) (as : List α) : α := (a :: as).getD (Config.freeChoice n % (as.length + 1)) a

/-- With no command waiting: one of the events due is taken; with none due, one tick of the timebase passes (R179). While
the part is held in reset nothing counts. -/
def State.idleStep (s : State) : State :=
  if s.inReset then s
  else match s.due with
    | [] => s.tick
    | d :: ds => (chosen s.choices d ds).take { s with choices := s.choices + 1 }

end Sys2Proof.Machine
end

