-- ==== Sys2Proof/Machine/Dispatch.lean ====
section
/-! DEFINITION. The meaning of every command: one arm per row of spec/opcode_table.json, in the table's order. -/

namespace Sys2Proof.Machine

/-- The effect of a command on everything but the queue of commands. -/
def exec (i : Instr) (s : State) : Host.Outcome State Fault Refusal :=
  match i with
  | .linkByteReceived k c => Sys2Proof.Machine.execLinkByteReceived k c s
  | .presentChangeTaken k level => Sys2Proof.Machine.execPresentChangeTaken k level s
  | .idleCharacterEnd k holdIn => Sys2Proof.Machine.execIdleCharacterEnd k holdIn s
  | .linkFrameComplete k holdIn => Sys2Proof.Machine.execLinkFrameComplete k holdIn s
  | .frameTaken k => Sys2Proof.Machine.execFrameTaken k s
  | .noticeMove k => Sys2Proof.Machine.execNoticeMove k s
  | .claim k => Sys2Proof.Machine.execClaim k s
  | .release k => Sys2Proof.Machine.execRelease k s
  | .data k => Sys2Proof.Machine.execData k s
  | .status k => Sys2Proof.Machine.execStatus k s
  | .loadWindow k => Sys2Proof.Machine.execLoadWindow k s
  | .loadZone k => Sys2Proof.Machine.execLoadZone k s
  | .loadPort k => Sys2Proof.Machine.execLoadPort k s
  | .loadLink k => Sys2Proof.Machine.execLoadLink k s
  | .setReport k => Sys2Proof.Machine.execSetReport k s
  | .readWindow k => Sys2Proof.Machine.execReadWindow k s
  | .readZone k => Sys2Proof.Machine.execReadZone k s
  | .readPort k => Sys2Proof.Machine.execReadPort k s
  | .readLink k => Sys2Proof.Machine.execReadLink k s
  | .readLease k => Sys2Proof.Machine.execReadLease k s
  | .readCounts k => Sys2Proof.Machine.execReadCounts k s
  | .revoke k => Sys2Proof.Machine.execRevoke k s
  | .enablePort k => Sys2Proof.Machine.execEnablePort k s
  | .disablePort k => Sys2Proof.Machine.execDisablePort k s
  | .restart k => Sys2Proof.Machine.execRestart k s
  | .restartTimeout => Sys2Proof.Machine.execRestartTimeout s
  | .selfDisableTimeout k => Sys2Proof.Machine.execSelfDisableTimeout k s
  | .pinReset => Sys2Proof.Machine.execPinReset s
  | .resetEnd levels => Sys2Proof.Machine.execResetEnd levels s
  | .idleTimerExpiry p => Sys2Proof.Machine.execIdleTimerExpiry p s
  | .readyChangeTaken p level => Sys2Proof.Machine.execReadyChangeTaken p level s
  | .faultChangeTaken p level => Sys2Proof.Machine.execFaultChangeTaken p level s
  | .graceTimerExpiry p => Sys2Proof.Machine.execGraceTimerExpiry p s
  | .stallTimerExpiry p => Sys2Proof.Machine.execStallTimerExpiry p s
  | .turnaroundTimerExpiry p => Sys2Proof.Machine.execTurnaroundTimerExpiry p s
  | .gatherTimerExpiry p => Sys2Proof.Machine.execGatherTimerExpiry p s
  | .portCharacterReceived p c => Sys2Proof.Machine.execPortCharacterReceived p c s
  | .portCharacterSent p busy => Sys2Proof.Machine.execPortCharacterSent p busy s
  | .busyNegated p => Sys2Proof.Machine.execBusyNegated p s

end Sys2Proof.Machine
end

