-- ==== Sys2Proof/Machine/Step.lean ====
section
/-! DEFINITION. One step of the part: the command at the front of the queue, or, when none waits, an event that is due
or one tick of the timebase (log entry 1). -/

namespace Sys2Proof.Machine

/-- A step takes the command at the front of the queue and runs it with the queue's rest; with no command waiting, an
event that is due is taken, or 1 ms passes. -/
def step (s : State) : Host.Outcome State Fault Refusal :=
  match s.pending with
  | [] => .next s.idleStep
  | c :: cs => exec c { s with pending := cs }

/-- A command is put at the front of the queue. -/
def State.withCommand (s : State) (c : Instr) : State := { s with pending := c :: s.pending }

/-- The command that a word spells is put at the front of the queue; the table gives no row bits, so no word spells
one. -/
def State.withFetchWord (s : State) (nbits w : Nat) : State :=
  match Sys2Proof.decodeTableWord nbits w with
  | none => s
  | some c => s.withCommand c

end Sys2Proof.Machine
end

