-- ==== Sys2Proof/Safety.lean ====
section
/-! DEFINITION. What the statements about the part speak of: the conditions of a handling event, the state of a part at
its reset values, a link that has been torn down, and the invariants a step keeps. -/

namespace Sys2Proof.Machine

/-! ## Conditions -/

/-- The handling event of the frame h about r can be taken at link k (R43, R58): the part runs, h is in hand, no
RESTART is under way, and the control queue has the room. -/
abbrev Handles (s : State) (k : LinkId) (h : Hand) (r : Option Resource) : Prop :=
  s.inReset = false ∧ (s.link k).hand = some h ∧ s.restart = none ∧ (s.link k).roomFor r = true

/-- The dispatcher may take a frame (R39, R40). -/
abbrev MayTake (s : State) (k : LinkId) : Prop :=
  s.inReset = false ∧ (s.link k).up = true ∧ s.restart = none ∧ (s.link k).selfDisable = none ∧
    (s.link k).hand = none ∧ 1 ≤ (s.link k).freePlaces ∧ ((s.link k).notices = [] ∨ (s.link k).freePlaces < 2)

/-- The command of the table that executes a management command in hand (11.5.1). -/
def MgmtCmd.instr (k : LinkId) : MgmtCmd → Instr
  | .loadWindow => .loadWindow k
  | .loadZone => .loadZone k
  | .loadPort => .loadPort k
  | .loadLink => .loadLink k
  | .setReport => .setReport k
  | .readWindow => .readWindow k
  | .readZone => .readZone k
  | .readPort => .readPort k
  | .readLink => .readLink k
  | .readLease => .readLease k
  | .readCounts => .readCounts k
  | .revoke => .revoke k
  | .enablePort => .enablePort k
  | .disablePort => .disablePort k
  | .restart => .restart k

/-- The port a command is an event of, for the commands of a port engine. -/
def Instr.portOf : Instr → Option PortId
  | .idleTimerExpiry p => some p
  | .readyChangeTaken p _ => some p
  | .faultChangeTaken p _ => some p
  | .graceTimerExpiry p => some p
  | .stallTimerExpiry p => some p
  | .turnaroundTimerExpiry p => some p
  | .gatherTimerExpiry p => some p
  | .portCharacterReceived p _ => some p
  | .portCharacterSent p _ => some p
  | .busyNegated p => some p
  | _ => none

/-- A command that may change the window table: LOAD_WINDOW, and those that can bring a reset (R59). -/
def Instr.mayChangeWindows : Instr → Bool
  | .loadWindow _ => true
  | .pinReset => true
  | .resetEnd _ => true
  | .restartTimeout => true
  | .linkFrameComplete _ _ => true
  | _ => false

/-- Occupied outbound buffers of a port (R125). -/
def Port.occupied (p : Port) : Nat := (if p.o0.isSome then 1 else 0) + (if p.o1.isSome then 1 else 0)

/-! ## Resets -/

/-- A link at its reset values (R11, R37, R38, R58, R168), whatever its lines and its transmitter. -/
structure Link.AtReset (l : Link) (mgmt : Bool) : Prop where
  profile : l.profile = ⟨true, .pub, mgmt, .r115200, 1536, 512, 512⟩
  selfDisable : l.selfDisable = none
  receiver : l.rx = .hunt
  rates : l.rxRate = .r115200 ∧ l.txRate = .r115200 ∧ l.rxNewRate = none ∧ l.txNewRate = none
  ingress : l.ingress = []
  marks : l.marks = ⟨1536, 512⟩
  holdOut : l.holdOut = false
  queues : l.control = [] ∧ l.touch = [] ∧ l.dataQ = []
  hand : l.hand = none
  notices : l.notices = []
  counters : l.counters = ⟨0, 0, 0, 0, 0, 0, 0, 0⟩

/-- A port at its reset values (R106, R123, R124, R145, R162, R166), whatever its lines and its transmitter. -/
structure Port.AtReset (p : Port) : Prop where
  profile : p.profile =
    ⟨.job, ⟨.r9600, .none, .one⟩, .none, 0x13, 0x11, false, 60, 30, 0, 50, 256, 192, 20, none⟩
  state : p.state = .disabled ∧ p.remembered = none
  timers : p.idleTimer = none ∧ p.graceTimer = none ∧ p.stallTimer = none ∧ p.turnTimer = none ∧ p.gatherTimer = none
  flow : p.flow = .running ∧ p.slot = none ∧ p.paused = false
  outputs : p.select = false ∧ p.hold = false
  outbound : p.o0 = none ∧ p.o1 = none ∧ p.fillOrder = [] ∧ p.credit = 0
  inbound : p.i0 = .free ∧ p.i1 = .free ∧ p.frameSize = none ∧ p.rxOldFormats = []
  panel : p.assembler = .waiting ∧ ∀ c : ContactId, p.contacts[c.val] = ⟨.free, 0, 0⟩
  counters : p.counters = ⟨0, 0, 0, 0, 0, 0, 0, 0, 0, 0⟩

/-- Every item at the value its own rule gives for reset (table of R178), whatever the lines. -/
structure State.AtReset (s : State) : Prop where
  links : ∀ k : LinkId, (s.link k).AtReset (k == 0)
  ports : ∀ p : PortId, (s.port p).AtReset
  windows : ∀ i : WindowId, s.windows[i.val] = ⟨false, 0, 0, .port 0, Rights.clear⟩
  zones : ∀ z : ZoneId, s.zone z = ⟨false, 0, 0, 0, 0, 0⟩
  leases : ∀ r : Resource, s.lease r = .free
  waits : s.waits = []
  report : s.reportLink = none
  restart : s.restart = none

/-! ## Touch reports made by the part -/

/-- The synthetic UPs of the contacts that zone z has captured on panel p, in order of contact number (R156, R159). -/
def State.upsOfZone (s : State) (p : PortId) (z : ZoneId) : List Report :=
  (contactIds.filter (fun c => (s.contact p c).state == .captured z)).map
    (fun c => ⟨some z, p, .up, c, (s.contact p c).lastX, (s.contact p c).lastY⟩)

/-- The synthetic UPs that link k is sent when panel p leaves IDLE, in order of contact number: those of the contacts
captured by a zone that k holds (R156, R160). -/
def State.upsOfPanel (s : State) (p : PortId) (k : LinkId) : List Report :=
  contactIds.filterMap (fun c =>
    match (s.contact p c).state with
    | .captured z =>
      if s.holder (.zone z) = some k then some ⟨some z, p, .up, c, (s.contact p c).lastX, (s.contact p c).lastY⟩
      else none
    | .free => none
    | .detached => none)

/-- A link after reports have arrived at its touch queue, one after the other (R25). -/
def Link.takeReports (rs : List Report) (l : Link) : Link := rs.foldl (fun m r => m.takeReport r) l

/-! ## Waiters dropped -/

/-- Between s and t the waiters of r have been dropped (R100): its entries have left the pool and the others stay, and
each UP link that waited has a DROPPED notice with cause DISABLED and the tag of its entry. A link has at most one entry
for a resource (R74); of two, the notice of the later would replace that of the earlier (R53). -/
structure WaitsDropped (s t : State) (r : Resource) : Prop where
  waits : t.waits = s.waits.filter (fun w => w.resource != r)
  told : ∀ w ∈ s.waits, w.resource = r → (∀ v ∈ s.waits, v.link = w.link → v.resource = r → v = w) →
    (s.link w.link).up = true → (⟨.dropped .disabled, r, w.tag⟩ : Notice) ∈ (t.link w.link).notices

/-! ## Teardown -/

/-- Link k, in the state s before, has been torn down in t (R34, R35). -/
structure TornDown (s t : State) (k : LinkId) : Prop where
  receiver : (t.link k).rx = .hunt
  ingress : (t.link k).ingress = []
  queues : (t.link k).control = [] ∧ (t.link k).touch = [] ∧ (t.link k).dataQ = []
  notices : (t.link k).notices = []
  hand : (t.link k).hand = none
  holdOut : (t.link k).holdOut = false
  transmitter : (s.link k).tx ≠ .rest → (t.link k).tx = .idleFill
  counters : (t.link k).counters = (s.link k).counters
  profile : (t.link k).profile = (s.link k).profile
  leases : ∀ r : Resource, t.holder r ≠ some k
  waits : ∀ w ∈ t.waits, w.link ≠ k

/-! ## Invariants -/

/-- A property that every step keeps. -/
def Kept (I : State → Prop) : Prop := ∀ s t : State, I s → step s = .next t → I t

/-- The queues and the wait pool keep within their places, and no link waits twice for one resource (R24, R25, R74). -/
structure QueueInv (s : State) : Prop where
  control : ∀ k : LinkId, (s.link k).control.length ≤ 8
  touch : ∀ k : LinkId, (s.link k).touch.length ≤ 8
  pool : s.waits.length ≤ 24
  perLink : ∀ k : LinkId, (s.waits.filter (fun w => w.link == k)).length ≤ 4
  distinct : s.waits.Pairwise (fun v w => ¬(v.link = w.link ∧ v.resource = w.resource))

/-- The wait pool stands in the order of R75, by resource and within one by class at arrival, and nothing waits for a
resource that is grantable (R77). -/
structure WaitInv (s : State) : Prop where
  order : s.waits.Pairwise (fun v w => v.order ≤ w.order)
  grantable : ∀ r : Resource, s.grantable r = true → s.queueOf r = []

/-- Handed buffers and data queue entries agree (R28, R124, R136): every entry names a buffer handed to its link, with
the count of the bytes it holds; every handed buffer holds bytes and has an entry; and none has two. -/
structure BufferInv (s : State) : Prop where
  entry : ∀ (k : LinkId), ∀ e ∈ (s.link k).dataQ, ∃ (bytes : List Byte) (thisJob : Bool),
    (s.port e.port).inb e.buf = .handed bytes k thisJob ∧ e.count = bytes.length
  handed : ∀ (p : PortId) (b : BufId) (bytes : List Byte) (k : LinkId) (thisJob : Bool),
    (s.port p).inb b = .handed bytes k thisJob → bytes ≠ [] ∧ ∃ e ∈ (s.link k).dataQ, e.port = p ∧ e.buf = b
  once : ∀ k : LinkId, (s.link k).dataQ.Pairwise (fun d e => ¬(d.port = e.port ∧ d.buf = e.buf))

/-- A CAPTURED contact names a HELD zone of its own panel (R152), and no zone's lease is RELEASING (R71). -/
structure ContactInv (s : State) : Prop where
  captured : ∀ (p : PortId) (c : ContactId) (z : ZoneId), (s.contact p c).state = .captured z →
    (s.zone z).panel = p ∧ ∃ h : Holding, s.lease (.zone z) = .held h
  zones : ∀ (z : ZoneId) (h : Holding), s.lease (.zone z) ≠ .releasing h

/-- At least one link profile is enabled and grants management right (R170). -/
def ManagerInv (s : State) : Prop :=
  ∃ k : LinkId, (s.link k).profile.enabled = true ∧ (s.link k).profile.mgmt = true

/-- The pending sets stand in the order of R54, with at most one notice of a kind about a resource (R52). -/
def NoticeInv (s : State) : Prop :=
  ∀ k : LinkId, (s.link k).notices.Pairwise (fun m n => m.order < n.order)

/-- A port and its lease agree (R72, R105, R125, R144): SELECT is asserted exactly while a job is open, which it is
exactly when the lease is HELD or RELEASING, and then credit and occupied outbound buffers make 2; otherwise both are 0;
a PANEL port has no job. -/
structure JobInv (s : State) : Prop where
  select : ∀ p : PortId, (s.port p).select = (s.port p).state.isJob
  lease : ∀ p : PortId, (s.port p).state.isJob = (s.lease (.port p)).holding.isSome
  remembered : ∀ (p : PortId) (st : PortState), (s.port p).remembered = some st → st.isJob = true
  panel : ∀ p : PortId, (s.port p).profile.kind = .panel →
    (s.port p).state = .disabled ∨ (s.port p).state = .offline ∨ (s.port p).state = .idle
  held : ∀ p : PortId, (s.port p).state.isJob = true → (s.port p).credit + (s.port p).occupied = 2
  free : ∀ p : PortId, (s.port p).state.isJob = false → (s.port p).credit = 0 ∧ (s.port p).occupied = 0

/-- A DOWN link holds nothing and waits for nothing (R10, R20, R34, R35). -/
structure DownInv (s : State) : Prop where
  link : ∀ k : LinkId, (s.link k).up = false →
    (s.link k).rx = .hunt ∧ (s.link k).ingress = [] ∧ (s.link k).control = [] ∧ (s.link k).touch = [] ∧
      (s.link k).dataQ = [] ∧ (s.link k).hand = none ∧ (s.link k).notices = [] ∧ (s.link k).holdOut = false
  leases : ∀ (k : LinkId) (r : Resource), s.holder r = some k → (s.link k).up = true
  waits : ∀ w ∈ s.waits, (s.link w.link).up = true

/-- Ingress holds at most 2048 bytes, and a frame in its check word has its whole header in ingress (R13, R19). -/
structure IngressInv (s : State) : Prop where
  space : ∀ k : LinkId, (s.link k).occupancy ≤ 2048
  header : ∀ (k : LinkId) (a : Assembly), (s.link k).rx = .frame .check a → 6 ≤ a.written.length

end Sys2Proof.Machine
end

