-- ==== Sys2Proof/WellFormed.lean ====
section
/-! DEFINITION. Which commands are well formed. Links, ports and bytes cannot be out of range by their types; the
lists of line levels that RESET_END carries must name every line of 11_formats_and_signals.md section 11.7 once. -/

namespace Sys2Proof

/-- One level for each PRESENT, READY and FAULT line (11.7: eight links, six ports). -/
def Levels.wellFormed (l : Levels) : Bool :=
  l.present.length == 8 && l.ready.length == 6 && l.fault.length == 6

/-- A command is well formed when it says everything its event needs. -/
def Instr.wellFormed : Instr → Bool
  | .resetEnd levels => levels.wellFormed
  | .linkByteReceived _ _ => true
  | .presentChangeTaken _ _ => true
  | .idleCharacterEnd _ _ => true
  | .linkFrameComplete _ _ => true
  | .frameTaken _ => true
  | .noticeMove _ => true
  | .claim _ => true
  | .release _ => true
  | .data _ => true
  | .status _ => true
  | .loadWindow _ => true
  | .loadZone _ => true
  | .loadPort _ => true
  | .loadLink _ => true
  | .setReport _ => true
  | .readWindow _ => true
  | .readZone _ => true
  | .readPort _ => true
  | .readLink _ => true
  | .readLease _ => true
  | .readCounts _ => true
  | .revoke _ => true
  | .enablePort _ => true
  | .disablePort _ => true
  | .restart _ => true
  | .restartTimeout => true
  | .selfDisableTimeout _ => true
  | .pinReset => true
  | .idleTimerExpiry _ => true
  | .readyChangeTaken _ _ => true
  | .faultChangeTaken _ _ => true
  | .graceTimerExpiry _ => true
  | .stallTimerExpiry _ => true
  | .turnaroundTimerExpiry _ => true
  | .gatherTimerExpiry _ => true
  | .portCharacterReceived _ _ => true
  | .portCharacterSent _ _ => true
  | .busyNegated _ => true

end Sys2Proof
end

