-- ==== Sys2Proof/Certificates/Slice0/Obligations.lean ====
section
/-! DEFINITION. The statements about the part, for the provers. OBLIGATIONS.json lists them with the rules they rest
on. -/

section Statements

open Sys2Proof Sys2Proof.Machine

/-! ## Steps, time and reset -/

/-- A step takes the command at the front of the queue and runs it on the state with the queue's rest. -/
def Obligations.StepRunsFrontCommand : Prop :=
  ∀ (s : State) (c : Instr) (cs : List Instr),
    step { s with pending := c :: cs } = exec c { s with pending := cs }

/-- No step stops: whatever the state, a step answers a next state. -/
def Obligations.NoStepStops : Prop := ∀ s : State, ∃ t : State, step s = .next t

/-- On an empty queue (the model's choice, log entry 1): held in reset nothing happens; with nothing due one tick of the
1 ms timebase passes; else one of the events due is taken, by the command of the table that takes it, which of them
being open (log entry 2).
An event is due when a tick has brought its filter to the tenth tick (R180), its bound to 100 ms (R171, R177) or its
timer to 0 (R179); its command then does what the taking of the event does.
A tick lowers every timer by 1, counts filters and bounds up, and changes nothing else. -/
def Obligations.EmptyQueueStepTicksOrTakes : Prop :=
  (∀ s : State, s.pending = [] →
    (s.inReset = true → step s = .next s) ∧
    (s.inReset = false → (∀ d : Due, d.isDue s = false) → step s = .next s.tick) ∧
    (s.inReset = false → (∃ d : Due, d.isDue s = true) →
      ∃ d : Due, d.isDue s = true ∧ step s = exec (d.command s) { s with choices := s.choices + 1 })) ∧
  (∀ (s : State) (d : Due), s.inReset = false → d.isDue s = true → exec (d.command s) s = .next (d.take s)) ∧
  (∀ (s : State) (k : LinkId),
    ((Due.present k).isDue s = true ↔ 10 ≤ (s.link k).presentTicks) ∧
    ((Due.selfDisable k).isDue s = true ↔ ∃ ms : Nat, (s.link k).selfDisable = some (.running ms) ∧ 100 ≤ ms) ∧
    (Due.restart.isDue s = true ↔ ∃ ms : Nat, s.restart = some ms ∧ 100 ≤ ms)) ∧
  (∀ (s : State) (p : PortId),
    ((Due.ready p).isDue s = true ↔ 10 ≤ (s.port p).readyTicks) ∧
    ((Due.fault p).isDue s = true ↔ 10 ≤ (s.port p).faultTicks) ∧
    ((Due.idle p).isDue s = true ↔ (s.port p).idleTimer = some 0) ∧
    ((Due.grace p).isDue s = true ↔ (s.port p).graceTimer = some 0) ∧
    ((Due.stall p).isDue s = true ↔ (s.port p).stallTimer = some 0) ∧
    ((Due.turn p).isDue s = true ↔ (s.port p).turnTimer = some 0) ∧
    ((Due.gather p).isDue s = true ↔ (s.port p).gatherTimer = some 0)) ∧
  (∀ s : State,
    s.tick = { s with links := s.tick.links, ports := s.tick.ports, restart := s.restart.map (fun n => n + 1) } ∧
    (∀ p : PortId, s.tick.port p = { s.port p with
      idleTimer := (s.port p).idleTimer.map (fun n => n - 1),
      graceTimer := (s.port p).graceTimer.map (fun n => n - 1),
      stallTimer := (s.port p).stallTimer.map (fun n => n - 1),
      turnTimer := (s.port p).turnTimer.map (fun n => n - 1),
      gatherTimer := (s.port p).gatherTimer.map (fun n => n - 1),
      readyTicks := if (s.port p).readyPin = (s.port p).ready then 0 else (s.port p).readyTicks + 1,
      faultTicks := if (s.port p).faultPin = (s.port p).fault then 0 else (s.port p).faultTicks + 1 }) ∧
    (∀ k : LinkId, s.tick.link k = { s.link k with
      presentTicks := if (s.link k).presentPin = (s.link k).present then 0 else (s.link k).presentTicks + 1,
      selfDisable := match (s.link k).selfDisable with
        | none => none
        | some (.running n) => some (.running (n + 1))
        | some .superseded => some .superseded }))

/-- The state after reset holds every item at its reset value; with the lines negated (log entry 4) every link is DOWN
and sends idle fill. -/
def Obligations.ResetStateHasResetValues : Prop :=
  State.reset.AtReset ∧ State.reset.inReset = false ∧ State.reset.pending = [] ∧
    (∀ k : LinkId, (State.reset.link k).tx = .idleFill ∧ (State.reset.link k).up = false) ∧
    (∀ p : PortId, (State.reset.port p).tx = .rest)

/-- PIN_RESET holds the part with its outputs at rest; RESET_END leaves it at the reset values, with present, READY and
FAULT states from the lines, and UP exactly the links whose PRESENT is asserted. A character in progress on a port line
is dropped at a pin reset, so every port transmitter is at rest (log entry 11).
While the RESET input is asserted no command but RESET_END changes anything, save PIN_RESET, which holds the part
again (log entry 5). -/
def Obligations.PinResetHoldsThePart : Prop :=
  ((∀ s : State, ∃ t : State, exec .pinReset s = .next t ∧ t.AtReset ∧ t.inReset = true ∧
    (∀ k : LinkId, (t.link k).tx = .rest ∧ (t.link k).holdOut = false) ∧
    (∀ p : PortId, (t.port p).select = false ∧ (t.port p).hold = false)) ∧
  (∀ (s : State) (v : Levels), s.inReset = true → v.wellFormed = true →
    ∃ t : State, exec (.resetEnd v) s = .next t ∧ t.AtReset ∧ t.inReset = false ∧
      (∀ k : LinkId, (t.link k).tx = .idleFill ∧ (t.link k).present = v.present.getD k.val false ∧
        (t.link k).up = v.present.getD k.val false) ∧
      (∀ p : PortId, (t.port p).tx = .rest ∧ (t.port p).ready = v.ready.getD p.val false ∧
        (t.port p).fault = v.fault.getD p.val false)) ∧
  (∀ (s : State) (v : Levels), s.inReset = false → exec (.resetEnd v) s = .next s)) ∧
  (∀ (s : State) (c : Instr), s.inReset = true → c ≠ .pinReset → (∀ v : Levels, c ≠ .resetEnd v) → exec c s = .next s)

/-- RESTART (R171, R177): the restart is under way, pending self-disables are overtaken (log entry 6) and nothing else
changes, and the answer DONE is placed, marked; every dispatcher then stops (R58).
The reset takes place at RESTART_TIMEOUT when 100 ms have passed, and at the end of the marked answer: reset values at
every block, and line states from the lines. -/
def Obligations.RestartBringsReset : Prop :=
  (∀ (s : State) (k : LinkId) (tag : Byte) (address : Word) (c : Byte) (h : Hand),
    h = ⟨tag, address, .mgmt .restart [c]⟩ → Handles s k h none →
    exec (.restart k) s =
      .next (((s.prepared k none).beginRestart).answer k h ⟨.done, 0xFF, 0, [], some .restart⟩) ∧
    (s.prepared k none).beginRestart.restart = some 0) ∧
  (∀ s : State, s.beginRestart = { s with restart := some 0, links := s.beginRestart.links } ∧
    ∀ j : LinkId, s.beginRestart.link j = { s.link j with
      selfDisable := match (s.link j).selfDisable with
        | none => none
        | some _ => some .superseded }) ∧
  (∀ (s : State) (k : LinkId), s.restart ≠ none → exec (.frameTaken k) s = .next s ∧
    exec (.claim k) s = .next s ∧ exec (.release k) s = .next s ∧ exec (.data k) s = .next s ∧
    exec (.status k) s = .next s ∧ ∀ cmd : MgmtCmd, exec (cmd.instr k) s = .next s) ∧
  (∀ s : State, s.restart = none → exec .restartTimeout s = .next s) ∧
  (∀ (s : State) (n : Nat), s.restart = some n → n < 100 → exec .restartTimeout s = .next s) ∧
  (∀ (s : State) (n : Nat), s.inReset = false → s.restart = some n → 100 ≤ n →
    exec .restartTimeout s = .next s.restartReset) ∧
  (∀ (s : State) (k : LinkId) (h : Bool) (n : Nat) (f : Frame) (w : List Byte), s.inReset = false →
    s.restart = some n → (s.link k).tx = .sending f w (.control (some .restart)) →
    exec (.linkFrameComplete k h) s = .next s.restartReset) ∧
  (∀ s : State, s.restartReset.AtReset ∧ s.restartReset.inReset = false ∧
    (∀ k : LinkId, (s.restartReset.link k).tx = .idleFill ∧
      (s.restartReset.link k).present = (s.link k).presentPin ∧ (s.restartReset.link k).up = (s.link k).presentPin) ∧
    (∀ p : PortId, (s.restartReset.port p).tx = (s.port p).tx.orphan ∧
      (s.restartReset.port p).txBits = (s.port p).txBits ∧
      (s.restartReset.port p).ready = (s.port p).readyPin ∧ (s.restartReset.port p).fault = (s.port p).faultPin))

/-! ## Link framing -/

/-- A character on a kiosk link (R1): a start bit, eight data bits least significant first, a stop bit, ten levels in all;
the receiver samples the byte in the eight data bits, and takes the byte whatever the stop bit.
The transmitter sends a frame character by character, and idle fill between frames (R2, R3). -/
def Obligations.LinkCharactersCarryBytes : Prop :=
  (∀ b : Byte, linkCharBits b = [false, b.getLsbD 0, b.getLsbD 1, b.getLsbD 2, b.getLsbD 3, b.getLsbD 4, b.getLsbD 5,
    b.getLsbD 6, b.getLsbD 7, true]) ∧
  (∀ (b : Byte) (stop : Bool), LinkChar.ofLevels ((linkCharBits b).take 9 ++ [stop]) = some ⟨b, stop⟩) ∧
  (∀ (s : State) (k : LinkId) (b : Byte), s.inReset = false →
    exec (.linkByteReceived k ⟨b, false⟩) s = exec (.linkByteReceived k ⟨b, true⟩) s) ∧
  (LinkTx.levels .rest = [] ∧ LinkTx.levels .idleFill = linkCharBits 0x55 ∧
    ∀ (f : Frame) (source : TxSource), LinkTx.levels (.sending f f.wire source) = f.wire.flatMap linkCharBits)

/-- The CRC (R5): the register begins at FFFFH, each byte is combined into the high eight bits and eight steps follow;
the digits 1 to 9 give 29B1H; continued over two check bytes the register is zero exactly when they are the check word,
high byte first. -/
def Obligations.CheckWordIsTheCrc : Prop :=
  crcOf [] = 0xFFFF ∧
  (∀ (bs : List Byte) (b : Byte),
    crcOf (bs ++ [b]) = Nat.iterate crcStep 8 (crcOf bs ^^^ (b.setWidth 16 <<< 8))) ∧
  (∀ c : Word, crcStep c = if c.getLsbD 15 then (c <<< 1) ^^^ 0x1021 else c <<< 1) ∧
  crcOf [0x31, 0x32, 0x33, 0x34, 0x35, 0x36, 0x37, 0x38, 0x39] = 0x29B1 ∧
  (∀ (bs : List Byte) (hi lo : Byte), crcOf (bs ++ [hi, lo]) = 0 ↔ crcOf bs = wordOf hi lo)

/-- A frame on the line (R2): opening pair, then header, payload and check word under transparency. -/
def Obligations.FramesAreSentUnderTransparency : Prop :=
  (∀ f : Frame, f.content = [f.kind, f.tag, hiByte f.address, loByte f.address,
      hiByte (BitVec.ofNat 16 f.payload.length), loByte (BitVec.ofNat 16 f.payload.length)] ++ f.payload) ∧
  (∀ f : Frame, f.wire =
    [0xC3, 0x3C] ++ (f.content ++ [hiByte (crcOf f.content), loByte (crcOf f.content)]).flatMap escaped) ∧
  escaped 0xC3 = [0x9E, 0xE3] ∧ escaped 0x55 = [0x9E, 0x75] ∧ escaped 0x9E = [0x9E, 0xBE] ∧
  (∀ b : Byte, b ≠ 0xC3 → b ≠ 0x55 → b ≠ 0x9E → escaped b = [b]) ∧
  (∀ f : Frame, 10 + f.payload.length ≤ f.wire.length ∧ f.wire.length ≤ 18 + 2 * f.payload.length) ∧
  (∀ (l : Link) (f : Frame) (source : TxSource), (l.send f source).tx = .sending f f.wire source)

/-- A byte received on a DOWN link is discarded (R10).
A byte received in HUNT or ARMED (R11). -/
def Obligations.ReceiverOutsideAFrame : Prop :=
  (∀ (s : State) (k : LinkId) (c : LinkChar), (s.link k).up = false →
    exec (.linkByteReceived k c) s = .next s) ∧
  (∀ (s : State) (k : LinkId) (b : Byte) (stop : Bool), s.inReset = false → (s.link k).up = true →
    ((s.link k).rx = .hunt → b = 0xC3 →
      exec (.linkByteReceived k ⟨b, stop⟩) s = .next (s.setLink k { s.link k with rx := .armed })) ∧
    ((s.link k).rx = .hunt → b ≠ 0xC3 → exec (.linkByteReceived k ⟨b, stop⟩) s = .next s) ∧
    ((s.link k).rx = .armed → b = 0x3C → exec (.linkByteReceived k ⟨b, stop⟩) s =
      .next (s.setLink k { s.link k with rx := .frame .header ⟨[], 0, 0xFFFF, [], false⟩ })) ∧
    ((s.link k).rx = .armed → b = 0xC3 → exec (.linkByteReceived k ⟨b, stop⟩) s = .next s) ∧
    ((s.link k).rx = .armed → b ≠ 0x3C → b ≠ 0xC3 →
      exec (.linkByteReceived k ⟨b, stop⟩) s = .next (s.setLink k { s.link k with rx := .hunt })))

/-- A byte received inside a frame, by its value and the escape-pending mark (R12).
A frame discarded or aborted gives up the bytes it had written, a change of occupancy at which HOLD-out is judged, and a
rate that waits takes effect, with the receiver then in HUNT (R14, R17, R20). -/
def Obligations.ReceiverInsideAFrame : Prop :=
  (∀ (s : State) (k : LinkId) (b : Byte) (stop : Bool) (ph : RxPhase) (a : Assembly),
    s.inReset = false → (s.link k).up = true → (s.link k).rx = .frame ph a →
    (b = 0xC3 → exec (.linkByteReceived k ⟨b, stop⟩) s = .next (s.mapLink k (fun l =>
      (l.discardFrame .armed).mapCounters (fun c => { c with aborted := bump c.aborted })))) ∧
    (b = 0x55 → exec (.linkByteReceived k ⟨b, stop⟩) s = .next (s.mapLink k (fun l =>
      (l.discardFrame .hunt).mapCounters (fun c => { c with aborted := bump c.aborted })))) ∧
    (b = 0x9E → a.escape = false → exec (.linkByteReceived k ⟨b, stop⟩) s =
      .next (s.setLink k { s.link k with rx := .frame ph { a with escape := true } })) ∧
    (b = 0xE3 ∨ b = 0x75 ∨ b = 0xBE → a.escape = true → exec (.linkByteReceived k ⟨b, stop⟩) s =
      .next (s.mapLink k (Link.contentByte ph a (b ^^^ 0x20)))) ∧
    (b ≠ 0xC3 → b ≠ 0x55 → b ≠ 0xE3 → b ≠ 0x75 → b ≠ 0xBE → a.escape = true →
      exec (.linkByteReceived k ⟨b, stop⟩) s = .next (s.mapLink k (fun l =>
        (l.discardFrame .hunt).mapCounters (fun c => { c with escapeErrors := bump c.escapeErrors })))) ∧
    (b ≠ 0xC3 → b ≠ 0x55 → b ≠ 0x9E → a.escape = false →
      exec (.linkByteReceived k ⟨b, stop⟩) s = .next (s.mapLink k (Link.contentByte ph a b)))) ∧
  (∀ (l : Link) (next : RxState), next = .hunt ∨ next = .armed →
    (l.discardFrame next).occupancy = (l.ingress.map (fun f => 6 + f.payload.length)).sum ∧
    (l.rxNewRate = none → (l.discardFrame next).rx = next ∧
      l.discardFrame next = Link.judgeHold l.occupancy { l with rx := next }) ∧
    (∀ r : LinkRate, l.rxNewRate = some r → (l.discardFrame next).rx = .hunt ∧ (l.discardFrame next).rxRate = r ∧
      l.discardFrame next = Link.judgeHold l.occupancy { l with rx := .hunt, rxRate := r, rxNewRate := none }))

/-- Content bytes in HEADER and BODY: written and included in the CRC, until the length is known and then reached; too
long a length and a full ingress discard the frame (R13, R14, R15). Each byte written is a change of occupancy, at which
HOLD-out is judged (R19, R20).
Content bytes in CHECK: after the second, a register of zero stores the frame whole behind those stored before, any
other discards it (R15, R16). Stored or discarded, the end of the frame is a boundary at which a rate that waits takes
effect (R17). -/
def Obligations.ContentBytesBuildTheFrame : Prop :=
  (∀ (l w : Link) (a : Assembly) (b : Byte) (ph : RxPhase), ph = .header ∨ ph = .body → l.rx = .frame ph a →
    w = Link.judgeHold l.occupancy
      { l with rx := .frame ph ⟨a.written ++ [b], a.length, crcByte a.crc b, a.checks, false⟩ } →
    (2048 ≤ l.occupancy → l.contentByte ph a b =
      (l.discardFrame .hunt).mapCounters (fun c => { c with overruns := bump c.overruns })) ∧
    (l.occupancy < 2048 → ph = .header → a.written.length < 5 → l.contentByte ph a b = w) ∧
    (∀ w0 w1 w2 w3 hi : Byte, l.occupancy < 2048 → ph = .header → a.written = [w0, w1, w2, w3, hi] →
      1024 < (wordOf hi b).toNat →
      l.contentByte ph a b =
        (w.discardFrame .hunt).mapCounters (fun c => { c with lengthErrors := bump c.lengthErrors }) ∧
      (l.contentByte ph a b).rx = .hunt ∧ (l.contentByte ph a b).ingress = l.ingress ∧
      (l.contentByte ph a b).rxRate = l.rxNewRate.getD l.rxRate ∧ (l.contentByte ph a b).rxNewRate = none ∧
      (l.contentByte ph a b).counters = { l.counters with lengthErrors := bump l.counters.lengthErrors }) ∧
    (∀ w0 w1 w2 w3 hi : Byte, l.occupancy < 2048 → ph = .header → a.written = [w0, w1, w2, w3, hi] →
      (wordOf hi b).toNat ≤ 1024 →
      l.contentByte ph a b = { w with
        rx := .frame (if (wordOf hi b).toNat = 0 then .check else .body)
          ⟨[w0, w1, w2, w3, hi, b], (wordOf hi b).toNat, crcByte a.crc b, a.checks, false⟩ }) ∧
    (l.occupancy < 2048 → ph = .body → l.contentByte ph a b = { w with
      rx := .frame (if a.written.length + 1 < 6 + a.length then .body else .check)
        ⟨a.written ++ [b], a.length, crcByte a.crc b, a.checks, false⟩ }) ∧
    w.counters = l.counters ∧ w.ingress = l.ingress) ∧
  (∀ (l : Link) (a : Assembly) (b : Byte), l.rx = .frame .check a →
    (a.checks = [] → l.contentByte .check a b =
      { l with rx := .frame .check ⟨a.written, a.length, crcByte a.crc b, [b], false⟩ }) ∧
    (∀ c : Byte, a.checks = [c] → crcByte a.crc b = 0 → l.contentByte .check a b =
      { l with
        rx := .hunt, rxRate := l.rxNewRate.getD l.rxRate, rxNewRate := none,
        ingress := l.ingress ++ [Frame.ofContent a.written],
        counters := { l.counters with accepted := bump l.counters.accepted } }) ∧
    (∀ c : Byte, a.checks = [c] → crcByte a.crc b ≠ 0 →
      l.contentByte .check a b =
        (l.discardFrame .hunt).mapCounters (fun c => { c with checkErrors := bump c.checkErrors }) ∧
      (l.contentByte .check a b).rx = .hunt ∧ (l.contentByte .check a b).ingress = l.ingress ∧
      (l.contentByte .check a b).rxRate = l.rxNewRate.getD l.rxRate ∧ (l.contentByte .check a b).rxNewRate = none ∧
      (l.contentByte .check a b).counters = { l.counters with checkErrors := bump l.counters.checkErrors })) ∧
  (∀ l : Link, l.occupancy = (l.ingress.map (fun f => 6 + f.payload.length)).sum +
    match l.rx with
    | .hunt => 0
    | .armed => 0
    | .frame _ a => a.written.length)

/-- A whole frame of at most 1024 payload bytes, received on an UP link in HUNT with room for it, is stored whole. -/
def Obligations.SentFrameIsStored : Prop :=
  ∀ (l : Link) (f : Frame), l.rx = .hunt → l.rxNewRate = none → f.payload.length ≤ 1024 →
    l.occupancy + 6 + f.payload.length ≤ 2048 →
    (f.wire.foldl (fun m b => m.receiveByte b) l).ingress = l.ingress ++ [f] ∧
    (f.wire.foldl (fun m b => m.receiveByte b) l).rx = .hunt

/-- HOLD-out at a change of occupancy follows the marks the profile holds, with hysteresis (R20, R21); where occupancy did
not change, as at the discard of a frame that had written no byte, nothing is judged (the model's reading, log
entry 13). -/
def Obligations.HoldOutFollowsTheMarks : Prop :=
  ∀ (was : Nat) (l : Link),
    (l.occupancy = was → l.judgeHold was = l) ∧
    (l.occupancy ≠ was →
      (l.judgeHold was).marks = ⟨l.profile.high, l.profile.low⟩ ∧
      (l.holdOut = false → l.profile.high.toNat ≤ l.occupancy → (l.judgeHold was).holdOut = true) ∧
      (l.holdOut = false → l.occupancy < l.profile.high.toNat → (l.judgeHold was).holdOut = false) ∧
      (l.holdOut = true → l.occupancy ≤ l.profile.low.toNat → (l.judgeHold was).holdOut = false) ∧
      (l.holdOut = true → l.profile.low.toNat < l.occupancy → (l.judgeHold was).holdOut = true))

/-! ## Link state and transmitter -/

/-- A link is UP while its present state is asserted and its profile enabled or a self-disable pending (R9, R171).
A change of PRESENT held to its tenth tick is taken (R9, R33, R180): an enabled link comes UP in HUNT with HOLD-out
negated; a disabled one stays DOWN; a level that is the present state already is no change. Before the tenth tick
nothing is taken, and a level given by the command that is another than the line had only moves the line and begins its
count again (the model's operand, log entry 3).
An UP link whose present state becomes negated, or whose self-disable reaches its bound of 100 ms, is torn down (R34,
R35, R171); before the bound the self-disable brings nothing.
That a link stays UP under a self-disable that a RESTART has overtaken, and that SELF_DISABLE_TIMEOUT then brings nothing,
is the model's reading (log entry 6). -/
def Obligations.PresentMovesTheLink : Prop :=
  (∀ l : Link, l.up = true ↔ l.present = true ∧ (l.profile.enabled = true ∨ l.selfDisable ≠ none)) ∧
  (∀ (s : State) (k : LinkId) (level : Bool), s.inReset = false →
    ((s.link k).presentTicks < 10 → (s.link k).presentPin = level → exec (.presentChangeTaken k level) s = .next s) ∧
    ((s.link k).presentTicks < 10 → (s.link k).presentPin ≠ level → exec (.presentChangeTaken k level) s =
      .next (s.setLink k { s.link k with presentPin := level, presentTicks := 0 })) ∧
    (10 ≤ (s.link k).presentTicks → (s.link k).presentPin = level → (s.link k).present = level →
      exec (.presentChangeTaken k level) s = .next (s.setLink k { s.link k with presentTicks := 0 })) ∧
    (10 ≤ (s.link k).presentTicks → (s.link k).presentPin ≠ level →
      ∃ t : State, exec (.presentChangeTaken k (s.link k).presentPin) s = .next t ∧
        exec (.presentChangeTaken k level) s =
          .next (t.setLink k { t.link k with presentPin := level, presentTicks := 0 }))) ∧
  (∀ (s : State) (k : LinkId), s.inReset = false → 10 ≤ (s.link k).presentTicks → (s.link k).presentPin = true →
    (s.link k).present = false →
    ((s.link k).profile.enabled = true ∨ (s.link k).selfDisable ≠ none →
      exec (.presentChangeTaken k true) s = .next (s.setLink k
        { s.link k with present := true, presentTicks := 0, rx := .hunt, holdOut := false })) ∧
    ((s.link k).profile.enabled = false → (s.link k).selfDisable = none →
      exec (.presentChangeTaken k true) s = .next (s.setLink k { s.link k with present := true, presentTicks := 0 }))) ∧
  (∀ (s : State) (k : LinkId), s.inReset = false → 10 ≤ (s.link k).presentTicks → (s.link k).presentPin = false →
    (s.link k).present = true →
    ((s.link k).up = true → ∃ t : State, exec (.presentChangeTaken k false) s = .next t ∧ TornDown s t k ∧
      (t.link k).up = false) ∧
    ((s.link k).up = false →
      exec (.presentChangeTaken k false) s = .next (s.setLink k { s.link k with present := false, presentTicks := 0 }))) ∧
  (∀ (s : State) (k : LinkId) (ms : Nat), (s.link k).selfDisable = some (.running ms) →
    (s.inReset = false → 100 ≤ ms → (s.link k).profile.enabled = false →
      ∃ t : State, exec (.selfDisableTimeout k) s = .next t ∧ TornDown s t k ∧ (t.link k).up = false) ∧
    (ms < 100 → exec (.selfDisableTimeout k) s = .next s)) ∧
  (∀ (s : State) (k : LinkId), (s.link k).selfDisable = none ∨ (s.link k).selfDisable = some .superseded →
    exec (.selfDisableTimeout k) s = .next s)

/-- At the end of an idle character the waiting rate takes effect, and the transmitter of an UP link that is not held
takes the head of the control queue, then of the touch queue, then of the data queue, else sends idle fill (R17, R23,
R30, R31).
The last check byte of a frame has been sent (R29, R32, R137, R171): a DATA frame's entry leaves and its buffer
returns to its port, a marked answer ends a self-disable, any other frame only frees the transmitter for the boundary.
TOUCH and DATA frames (R8, R31): the address names the zone, FFH when there is none, or the port; a TOUCH frame carries
zone, panel, phase, contact and the two coordinates, a DATA frame the bytes of the buffer.
A freed buffer returns to its port (R137, R132): in a port with an open job and nothing filling it becomes filling and
empty, else free; the inbound pause, the rest and the stall are judged again (R138, R94). -/
def Obligations.TransmitterChoosesInOrder : Prop :=
  (∀ (s : State) (k : LinkId) (h : Bool) (l : Link), s.inReset = false → (s.link k).tx = .idleFill →
    l = { s.link k with holdInPin := h, txRate := (s.link k).txNewRate.getD (s.link k).txRate, txNewRate := none } →
    ((s.link k).up = false ∨ h = true → exec (.idleCharacterEnd k h) s = .next (s.setLink k l)) ∧
    (∀ (c : ControlFrame) (cs : List ControlFrame), (s.link k).up = true → h = false → (s.link k).control = c :: cs →
      exec (.idleCharacterEnd k h) s =
        .next (s.setLink k { l with control := cs, tx := .sending c.frame c.frame.wire (.control c.mark) })) ∧
    (∀ (r : Report) (rs : List Report), (s.link k).up = true → h = false → (s.link k).control = [] →
      (s.link k).touch = r :: rs →
      exec (.idleCharacterEnd k h) s =
        .next (s.setLink k { l with touch := rs, tx := .sending r.frame r.frame.wire .touch })) ∧
    (∀ (e : DataEntry) (es : List DataEntry), (s.link k).up = true → h = false → (s.link k).control = [] →
      (s.link k).touch = [] → (s.link k).dataQ = e :: es →
      exec (.idleCharacterEnd k h) s = .next (s.setLink k
        { l with tx := .sending (dataFrame e.port (s.entryBytes e)) (dataFrame e.port (s.entryBytes e)).wire .data })) ∧
    ((s.link k).up = true → h = false → (s.link k).control = [] → (s.link k).touch = [] → (s.link k).dataQ = [] →
      exec (.idleCharacterEnd k h) s = .next (s.setLink k l)) ∧
    exec (.idleCharacterEnd k h) s = .next (s.boundary k h)) ∧
  (∀ (s : State) (k : LinkId) (h : Bool) (f : Frame) (w : List Byte) (source : TxSource),
    s.inReset = false → (s.link k).tx = .sending f w source →
    (source = .touch ∨ source = .control none → exec (.linkFrameComplete k h) s =
      .next ((s.setLink k { s.link k with tx := .idleFill }).boundary k h)) ∧
    (∀ (e : DataEntry) (es : List DataEntry), source = .data → (s.link k).dataQ = e :: es →
      exec (.linkFrameComplete k h) s =
        .next (((s.setLink k { s.link k with tx := .idleFill, dataQ := es }).mapPort e.port
          (Port.returnBuffer e.buf)).boundary k h)) ∧
    (∀ ms : Nat, source = .control (some .selfDisable) → (s.link k).selfDisable = some (.running ms) →
      exec (.linkFrameComplete k h) s =
        .next (((s.setLink k { s.link k with tx := .idleFill }).tearDown k).boundary k h))) ∧
  (∀ (z : Option ZoneId) (p : PortId) (ph : Phase) (c : ContactId) (x y : Coord) (a zb pb : Byte),
    (z = none ∧ a = 0xFF ∧ zb = 0xFF) ∨ (∃ v : ZoneId, z = some v ∧ a.toNat = 32 + v.val ∧ zb.toNat = v.val) →
    pb = (match ph with | .down => 0 | .move => 1 | .up => 2) →
    Report.frame ⟨z, p, ph, c, x, y⟩ = ⟨0x84, 0, wordOf 0 a, [zb, byteOf p.val, pb, byteOf c.val,
      hiByte (x.setWidth 16), loByte (x.setWidth 16), hiByte (y.setWidth 16), loByte (y.setWidth 16)]⟩) ∧
  (∀ (p : PortId) (bytes : List Byte), dataFrame p bytes = ⟨0x83, 0, wordOf 0 (byteOf p.val), bytes⟩) ∧
  (∀ (s : State) (e : DataEntry) (bytes : List Byte) (k : LinkId) (j : Bool),
    (s.port e.port).inb e.buf = .handed bytes k j → e.count = bytes.length → s.entryBytes e = bytes) ∧
  (∀ (x : Port) (job : Prop), (job ↔ x.state = .opened ∨ x.state = .suspended ∨ x.state = .closing) →
    (job → (∀ bytes : List Byte, x.i1 ≠ .filling bytes) →
      x.returnBuffer .b0 = Port.judge { x with i0 := .filling [] }) ∧
    (¬job ∨ (∃ bytes : List Byte, x.i1 = .filling bytes) → x.returnBuffer .b0 = Port.judge { x with i0 := .free }) ∧
    (job → (∀ bytes : List Byte, x.i0 ≠ .filling bytes) →
      x.returnBuffer .b1 = Port.judge { x with i1 := .filling [] }) ∧
    (¬job ∨ (∃ bytes : List Byte, x.i0 = .filling bytes) → x.returnBuffer .b1 = Port.judge { x with i1 := .free }))

/-! ## Dispatcher -/

/-- FRAME_TAKEN: the oldest stored frame leaves ingress and is answered at once or becomes the frame in hand, by its kind
and form (R39, R41, R42, R49). A MGMT frame that names no command is refused BAD_REQUEST (R163) at its taking (the model's
reading, log entry 12). The command bytes are 01H to 0FH (table 11.5.1).
A dispatcher that may not take a frame, or has none, leaves it (R39, R40). -/
def Obligations.TakenFrameIsJudged : Prop :=
  ((List.range 17).map (fun n => MgmtCmd.ofByte (byteOf n)) = [none, some .loadWindow, some .loadZone, some .loadPort,
    some .loadLink, some .setReport, some .readWindow, some .readZone, some .readPort, some .readLink, some .readLease,
    some .readCounts, some .revoke, some .enablePort, some .disablePort, some .restart, none] ∧
    ∀ b : Byte, 15 < b.toNat → MgmtCmd.ofByte b = none) ∧
  (∀ l : Link, l.freePlaces = 8 - l.control.length) ∧
  (∀ (s : State) (k : LinkId), ¬MayTake s k ∨ (s.link k).ingress = [] → exec (.frameTaken k) s = .next s) ∧
  ∀ (s : State) (k : LinkId) (f : Frame) (fs : List Frame) (t : State) (bad : State),
    MayTake s k → (s.link k).ingress = f :: fs →
    t = s.mapLink k (fun l => Link.judgeHold l.occupancy { l with ingress := fs }) →
    bad = t.mapLink k (Link.placeAnswer f.tag f.address (Answer.plain .badRequest 0xFF 0)) →
    (f.kind ≠ 0x01 → f.kind ≠ 0x02 → f.kind ≠ 0x03 → f.kind ≠ 0x04 → f.kind ≠ 0x0F →
      exec (.frameTaken k) s = .next bad) ∧
    (f.kind = 0x0F → (s.link k).profile.mgmt = false → exec (.frameTaken k) s =
      .next (t.mapLink k (Link.placeAnswer f.tag f.address (Answer.plain .denied 0xFF 0)))) ∧
    (∀ (c : Byte) (ops : List Byte) (cmd : MgmtCmd), f.kind = 0x0F → (s.link k).profile.mgmt = true →
      f.payload = c :: ops → MgmtCmd.ofByte c = some cmd → exec (.frameTaken k) s =
      .next (t.mapLink k (fun l => { l with hand := some ⟨f.tag, f.address, .mgmt cmd f.payload⟩ }))) ∧
    (f.kind = 0x0F → (s.link k).profile.mgmt = true →
      f.payload = [] ∨ (∃ (c : Byte) (ops : List Byte), f.payload = c :: ops ∧ MgmtCmd.ofByte c = none) →
      exec (.frameTaken k) s = .next bad) ∧
    (f.kind = 0x01 → f.payload ≠ [0x00] → f.payload ≠ [0x01] → exec (.frameTaken k) s = .next bad) ∧
    (f.kind = 0x02 ∨ f.kind = 0x04 → f.payload ≠ [] → exec (.frameTaken k) s = .next bad) ∧
    ((f.kind = 0x01 ∧ (f.payload = [0x00] ∨ f.payload = [0x01])) ∨ (f.kind = 0x02 ∧ f.payload = []) ∨
      f.kind = 0x03 ∨ (f.kind = 0x04 ∧ f.payload = []) → s.govern f.address = none →
      exec (.frameTaken k) s =
        .next (t.mapLink k (Link.placeAnswer f.tag f.address (Answer.plain .noService 0xFF 0)))) ∧
    (∀ w : Window, s.govern f.address = some w →
      (f.kind = 0x01 → f.payload = [0x00] → exec (.frameTaken k) s = .next (t.mapLink k (fun l =>
        { l with hand := some ⟨f.tag, f.address, .claim w.target w.rights false⟩ }))) ∧
      (f.kind = 0x01 → f.payload = [0x01] → exec (.frameTaken k) s = .next (t.mapLink k (fun l =>
        { l with hand := some ⟨f.tag, f.address, .claim w.target w.rights true⟩ }))) ∧
      (f.kind = 0x02 → f.payload = [] → exec (.frameTaken k) s = .next (t.mapLink k (fun l =>
        { l with hand := some ⟨f.tag, f.address, .release w.target w.rights⟩ }))) ∧
      (f.kind = 0x03 → exec (.frameTaken k) s = .next (t.mapLink k (fun l =>
        { l with hand := some ⟨f.tag, f.address, .data w.target w.rights f.payload⟩ }))) ∧
      (f.kind = 0x04 → f.payload = [] → exec (.frameTaken k) s = .next (t.mapLink k (fun l =>
        { l with hand := some ⟨f.tag, f.address, .status w.target w.rights⟩ }))))

/-- A numbered window matches exactly the addresses that agree with its base in every bit its mask does not free, when it
is enabled; with no base bit under the mask these are the addresses that equal the base once the masked bits are
cleared (R60).
The governing window is the lowest-numbered match among W0 to W15, else the default window when it is enabled, else
none (R61, R62). -/
def Obligations.WindowsGovernByLowestMatch : Prop :=
  (∀ (w : Window) (a : Word),
    (w.matches a = true ↔
      w.enabled = true ∧ ∀ i : Nat, i < 16 → w.mask.getLsbD i = false → a.getLsbD i = w.base.getLsbD i) ∧
    (w.base &&& w.mask = 0 → (w.matches a = true ↔ w.enabled = true ∧ a &&& ~~~w.mask = w.base))) ∧
  (∀ (s : State) (a : Word),
    (∀ i : WindowId, i.val < 16 → s.windows[i.val].matches a = true →
      (∀ j : WindowId, j < i → s.windows[j.val].matches a = false) → s.govern a = some s.windows[i.val]) ∧
    ((∀ j : WindowId, j.val < 16 → s.windows[j.val].matches a = false) → s.windows[16].enabled = true →
      s.govern a = some s.windows[16]) ∧
    ((∀ j : WindowId, j.val < 16 → s.windows[j.val].matches a = false) → s.windows[16].enabled = false →
      s.govern a = none))

/-- A notice entering a pending set (table of R53), by what the set holds afterwards.
NOTICE_MOVE: the first pending notice becomes a frame at the tail of the control queue when two places are free and
no frame is in hand; otherwise nothing moves (R54).
At a handling event the frame leaves the hand, and the notices pending about the resource named leave the set, in their
order, for the tail of the control queue; all other notices stay, and nothing else changes (R55).
The NOTICE frame of each kind: tag, resource in the address, kind, resource and value (R8, table 11.3.3).
A notice made for an UP link enters its set; one made for a DOWN link is discarded (R52). -/
def Obligations.NoticesMergeAndMove : Prop :=
  (∀ (set : List Notice) (r : Resource) (tag : Byte) (m : Notice),
    (∀ c : Cause, m ∈ mergeNotice set ⟨.revoked c, r, tag⟩ ↔ m = ⟨.revoked c, r, tag⟩ ∨
      (m ∈ set ∧ (m.resource = r →
        m.body.rank ≠ 1 ∧ m.body.rank ≠ 4 ∧ m.body.rank ≠ 5 ∧ m.body.rank ≠ 6 ∧ m.body.rank ≠ 7))) ∧
    (m ∈ mergeNotice set ⟨.suspended, r, tag⟩ ↔ m = ⟨.suspended, r, tag⟩ ∨
      (m ∈ set ∧ (m.resource = r → m.body.rank ≠ 5 ∧ m.body.rank ≠ 6))) ∧
    ((∃ q ∈ set, q.resource = r ∧ q.body = .suspended) →
      (m ∈ mergeNotice set ⟨.resumed, r, tag⟩ ↔ m ∈ set ∧ (m.resource = r → m.body.rank ≠ 5))) ∧
    ((¬∃ q ∈ set, q.resource = r ∧ q.body = .suspended) →
      (m ∈ mergeNotice set ⟨.resumed, r, tag⟩ ↔ m = ⟨.resumed, r, tag⟩ ∨
        (m ∈ set ∧ (m.resource = r → m.body.rank ≠ 6)))) ∧
    (∀ (a c : Nat) (old : Byte), (⟨.credit c, r, old⟩ : Notice) ∈ set →
      (∀ q ∈ set, q.resource = r → q.body.rank = 7 → q = ⟨.credit c, r, old⟩) →
      (m ∈ mergeNotice set ⟨.credit a, r, tag⟩ ↔ m = ⟨.credit (c + a), r, old⟩ ∨
        (m ∈ set ∧ (m.resource = r → m.body.rank ≠ 7)))) ∧
    (∀ a : Nat, (∀ q ∈ set, q.resource = r → q.body.rank ≠ 7) →
      (m ∈ mergeNotice set ⟨.credit a, r, tag⟩ ↔ m = ⟨.credit a, r, tag⟩ ∨ m ∈ set)) ∧
    (∀ b : NoticeBody, b.rank = 2 ∨ b.rank = 3 ∨ b.rank = 4 ∨ b.rank = 8 →
      (m ∈ mergeNotice set ⟨b, r, tag⟩ ↔ m = ⟨b, r, tag⟩ ∨
        (m ∈ set ∧ (m.resource = r → m.body.rank ≠ b.rank))))) ∧
  (∀ (s : State) (k : LinkId) (n : Notice) (ns : List Notice), s.inReset = false → (s.link k).notices = n :: ns →
    ((s.link k).up = true → (s.link k).hand = none → (s.link k).control.length ≤ 6 →
      exec (.noticeMove k) s = .next (s.setLink k
        { s.link k with notices := ns, control := (s.link k).control ++ [⟨n.frame, none⟩] })) ∧
    ((s.link k).up = false ∨ (s.link k).hand ≠ none ∨ 6 < (s.link k).control.length →
      exec (.noticeMove k) s = .next s)) ∧
  (∀ (s : State) (k : LinkId), s.prepared k none = s.setLink k { s.link k with hand := none } ∧
    ∀ r : Resource, s.prepared k (some r) = s.setLink k { s.link k with
      hand := none,
      control := (s.link k).control ++
        ((s.link k).notices.filter (fun n => n.resource == r)).map (fun n => ⟨n.frame, none⟩),
      notices := (s.link k).notices.filter (fun n => n.resource != r) }) ∧
  (∀ (b : NoticeBody) (r : Resource) (tag kind value : Byte),
    (b = .released ∧ kind = 3 ∧ value = 1) ∨
      (b = .granted ∧ kind = 4 ∧ value = (match r with | .port _ => 2 | .zone _ => 0)) ∨
      (b = .suspended ∧ kind = 5 ∧ value = 0) ∨ (b = .resumed ∧ kind = 6 ∧ value = 0) ∨
      (∃ a : Nat, b = .credit a ∧ kind = 7 ∧ value = byteOf a) ∨
      (∃ st : PortState, b = .portState st ∧ kind = 8 ∧ value = st.code) ∨
      (∃ c : Cause, (b = .revoked c ∧ kind = 1 ∨ b = .dropped c ∧ kind = 2) ∧
        value = (match c with | .idle => 1 | .fault => 2 | .offline => 3 | .stall => 4 | .managed => 5 | .disabled => 6)) →
    Notice.frame ⟨b, r, tag⟩ = ⟨0x82, tag, wordOf 0 r.code, [kind, r.code, value]⟩ ∧ b.rank = kind.toNat) ∧
  (∀ (s : State) (k : LinkId) (n : Notice), ((s.link k).up = false → s.enterNotice k n = s) ∧
    ((s.link k).up = true → s.enterNotice k n =
      s.setLink k { s.link k with notices := mergeNotice (s.link k).notices n }))

/-- A report arriving at the touch queue of an UP link (R25, R26): appended while there is room; at a full queue the
latest MOVE of the same panel and contact is replaced by a MOVE, else the oldest MOVE makes room, else the head; each of
these raises touch lost. A DOWN link takes none (R27). -/
def Obligations.TouchQueueTakesReports : Prop :=
  ∀ (l : Link) (r : Report),
    (l.up = false → l.takeReport r = l) ∧
    (l.up = true → l.touch.length < 8 → l.takeReport r = { l with touch := l.touch ++ [r] }) ∧
    (∀ (xs ys : List Report) (q : Report), l.up = true → 8 ≤ l.touch.length → l.touch = xs ++ q :: ys →
      r.phase = .move → q.phase = .move → q.panel = r.panel → q.contact = r.contact →
      (∀ y ∈ ys, ¬(y.phase = .move ∧ y.panel = r.panel ∧ y.contact = r.contact)) →
      l.takeReport r = { l with
        touch := xs ++ r :: ys,
        counters := { l.counters with touchLost := bump l.counters.touchLost } }) ∧
    (∀ (xs ys : List Report) (q : Report), l.up = true → 8 ≤ l.touch.length → l.touch = xs ++ q :: ys →
      (r.phase = .move → ∀ y ∈ l.touch, ¬(y.phase = .move ∧ y.panel = r.panel ∧ y.contact = r.contact)) →
      q.phase = .move → (∀ x ∈ xs, x.phase ≠ .move) →
      l.takeReport r = { l with
        touch := xs ++ ys ++ [r],
        counters := { l.counters with touchLost := bump l.counters.touchLost } }) ∧
    (∀ (q : Report) (ys : List Report), l.up = true → 8 ≤ l.touch.length → l.touch = q :: ys →
      (∀ y ∈ l.touch, y.phase ≠ .move) →
      l.takeReport r = { l with
        touch := ys ++ [r],
        counters := { l.counters with touchLost := bump l.counters.touchLost } })

/-! ## Requests -/

/-- The checks that come before the request is performed (R44): rights of the class as it is now, then the target,
then the length of DATA. Each refusal names the resource and moves its pending notices first.
A management command of another length than it takes is refused BAD_REQUEST and changes nothing else (R163).
An answer goes to the tail of the control queue with the tag and address of its frame, and a refusal, of a code of 10H
or above, is counted (R8, R50, R51); its room is a place for itself and one for each notice pending about the resource
(R43).
Without that room the frame in hand waits (R43). -/
def Obligations.RequestsAreCheckedInOrder : Prop :=
  (∀ (s u : State) (k : LinkId) (tag : Byte) (address : Word) (r : Resource) (rights : Rights),
    u = s.prepared k (some r) →
    (∀ wait : Bool, Handles s k ⟨tag, address, .claim r rights wait⟩ (some r) →
      ((rights.of (s.link k).profile.cls).claim = false → exec (.claim k) s =
        .next (u.mapLink k (Link.placeAnswer tag address (Answer.plain .denied r.code 0)))) ∧
      (∀ p : PortId, (rights.of (s.link k).profile.cls).claim = true → r = .port p →
        (s.port p).profile.kind = .panel → exec (.claim k) s =
        .next (u.mapLink k (Link.placeAnswer tag address (Answer.plain .badRequest r.code 0))))) ∧
    (Handles s k ⟨tag, address, .release r rights⟩ (some r) →
      ((rights.of (s.link k).profile.cls).claim = false → exec (.release k) s =
        .next (u.mapLink k (Link.placeAnswer tag address (Answer.plain .denied r.code 0)))) ∧
      (∀ p : PortId, (rights.of (s.link k).profile.cls).claim = true → r = .port p →
        (s.port p).profile.kind = .panel → exec (.release k) s =
        .next (u.mapLink k (Link.placeAnswer tag address (Answer.plain .badRequest r.code 0))))) ∧
    (∀ payload : List Byte, Handles s k ⟨tag, address, .data r rights payload⟩ (some r) →
      ((rights.of (s.link k).profile.cls).data = false → exec (.data k) s =
        .next (u.mapLink k (Link.placeAnswer tag address (Answer.plain .denied r.code 0)))) ∧
      (∀ z : ZoneId, (rights.of (s.link k).profile.cls).data = true → r = .zone z → exec (.data k) s =
        .next (u.mapLink k (Link.placeAnswer tag address (Answer.plain .badRequest r.code 0)))) ∧
      (∀ p : PortId, (rights.of (s.link k).profile.cls).data = true → r = .port p →
        (s.port p).profile.kind = .panel → exec (.data k) s =
        .next (u.mapLink k (Link.placeAnswer tag address (Answer.plain .badRequest r.code 0)))) ∧
      (∀ p : PortId, (rights.of (s.link k).profile.cls).data = true → r = .port p →
        (s.port p).profile.kind = .job → payload.length = 0 ∨ 512 < payload.length → exec (.data k) s =
        .next (u.mapLink k (Link.placeAnswer tag address (Answer.plain .length r.code 0))))) ∧
    (Handles s k ⟨tag, address, .status r rights⟩ (some r) →
      (rights.of (s.link k).profile.cls).status = false → exec (.status k) s =
        .next (u.mapLink k (Link.placeAnswer tag address (Answer.plain .denied r.code 0))))) ∧
  (∀ (s : State) (k : LinkId) (tag : Byte) (address : Word) (cmd : MgmtCmd) (payload : List Byte) (h : Hand),
    h = ⟨tag, address, .mgmt cmd payload⟩ → Handles s k h (cmd.names payload) → payload.length ≠ cmd.length →
    exec (cmd.instr k) s = .next ((s.prepared k (cmd.names payload)).answer k h (Answer.plain .badRequest 0xFF 0))) ∧
  ([MgmtCmd.loadWindow, .loadZone, .loadPort, .loadLink, .setReport, .readWindow, .readZone, .readPort, .readLink,
    .readLease, .readCounts, .revoke, .enablePort, .disablePort, .restart].map MgmtCmd.length =
    [12, 12, 20, 12, 2, 2, 2, 2, 2, 2, 4, 2, 2, 2, 1]) ∧
  (∀ (s : State) (k : LinkId) (h : Hand) (a : Answer), s.answer k h a = s.setLink k { s.link k with
    control := (s.link k).control ++
      [⟨⟨0x81, h.tag, h.address, [a.result.code, a.resource, a.detail] ++ a.more⟩, a.mark⟩],
    counters := { (s.link k).counters with
      refused := if 0x10 ≤ a.result.code.toNat then bump (s.link k).counters.refused
        else (s.link k).counters.refused } } ∧
    s.mapLink k (Link.placeAnswer h.tag h.address a) = s.answer k h a) ∧
  ([Result.done, .queued, .closing, .busy, .queueFull, .already, .notHolder, .overCredit, .releasing, .portDown,
    .noService, .denied, .badRequest, .length, .range, .inUse, .lockout].map Result.code =
    [0x00, 0x01, 0x02, 0x10, 0x11, 0x12, 0x13, 0x14, 0x15, 0x16, 0x20, 0x21, 0x22, 0x23, 0x30, 0x31, 0x32]) ∧
  (∀ l : Link, (l.roomFor none = true ↔ l.control.length < 8) ∧ ∀ r : Resource, l.roomFor (some r) = true ↔
    l.control.length + (l.notices.filter (fun n => n.resource == r)).length < 8) ∧
  (∀ (s : State) (k : LinkId) (h : Hand) (c : Instr) (named : Option Resource), (s.link k).hand = some h →
    (s.link k).roomFor named = false →
    (∃ (r : Resource) (rights : Rights), named = some r ∧
      ((∃ wait : Bool, h.request = .claim r rights wait ∧ c = .claim k) ∨
        (h.request = .release r rights ∧ c = .release k) ∨
        (∃ payload : List Byte, h.request = .data r rights payload ∧ c = .data k) ∨
        (h.request = .status r rights ∧ c = .status k))) ∨
      (∃ (cmd : MgmtCmd) (payload : List Byte), h.request = .mgmt cmd payload ∧ named = cmd.names payload ∧
        c = cmd.instr k) →
    exec c s = .next s)

/-- A CLAIM that has passed the checks is judged by what it finds of the resource, with its wait entry and its
answer (R45, R78, R80).
What holding, waiting, the place in a queue, being grantable, out of service and OFFLINE are (R71, R75, R77, R78).
A new wait entry stands behind every entry of its resource of the same or a higher class, ahead of every one of a
lower class, and the others keep their order (R75), in a queue that stands in the order of classes. -/
def Obligations.ClaimIsJudgedByTheTable : Prop :=
  (∀ (s : State) (r : Resource) (k : LinkId),
    (s.holder r = some k ↔ ∃ h : Holding, (s.lease r = .held h ∨ s.lease r = .releasing h) ∧ h.link = k) ∧
    (s.waitsOn k r = true ↔ ∃ w ∈ s.waits, w.link = k ∧ w.resource = r) ∧
    s.queueOf r = s.waits.filter (fun w => w.resource == r) ∧
    (s.waitsOn k r = false → s.position k r = 0) ∧
    (∀ (vs ws : List Wait) (w : Wait), s.queueOf r = vs ++ w :: ws → w.link = k → (∀ v ∈ vs, v.link ≠ k) →
      s.position k r = vs.length + 1)) ∧
  (∀ (s : State) (p : PortId),
    (s.grantable (.port p) = true ↔
      (s.port p).profile.kind = .job ∧ (s.port p).state = .idle ∧ s.lease (.port p) = .free) ∧
    (s.outOfService (.port p) = true ↔ (s.port p).state = .disabled) ∧
    (s.isOffline (.port p) = true ↔ (s.port p).state = .offline) ∧ grantDetail (.port p) = 2 ∧
    (s.isPanel (.port p) = true ↔ (s.port p).profile.kind = .panel)) ∧
  (∀ (s : State) (z : ZoneId),
    (s.grantable (.zone z) = true ↔ (s.zone z).enabled = true ∧ s.lease (.zone z) = .free) ∧
    (s.outOfService (.zone z) = true ↔ (s.zone z).enabled = false) ∧ s.isOffline (.zone z) = false ∧
    grantDetail (.zone z) = 0 ∧ s.isPanel (.zone z) = false) ∧
  (∀ (s u : State) (k : LinkId) (tag : Byte) (address : Word) (r : Resource) (rights : Rights) (wait : Bool) (h : Hand),
    h = ⟨tag, address, .claim r rights wait⟩ → Handles s k h (some r) →
    (rights.of (s.link k).profile.cls).claim = true → s.isPanel r = false → u = s.prepared k (some r) →
    (s.holder r = some k ∨ s.waitsOn k r = true →
      exec (.claim k) s = .next (u.answer k h (Answer.plain .already r.code 0))) ∧
    (s.holder r ≠ some k → s.waitsOn k r = false → s.outOfService r = true →
      exec (.claim k) s = .next (u.answer k h (Answer.plain .portDown r.code 0))) ∧
    (s.holder r ≠ some k → s.waitsOn k r = false → s.outOfService r = false → s.grantable r = true →
      exec (.claim k) s = .next ((u.grant r ⟨k, (s.link k).profile.cls, tag⟩).answer k h
        (Answer.plain .done r.code (grantDetail r)))) ∧
    (s.holder r ≠ some k → s.waitsOn k r = false → s.outOfService r = false → s.grantable r = false → wait = true →
      4 ≤ (s.waits.filter (fun w => w.link == k)).length →
      exec (.claim k) s = .next (u.answer k h (Answer.plain .queueFull r.code 1))) ∧
    (s.holder r ≠ some k → s.waitsOn k r = false → s.outOfService r = false → s.grantable r = false → wait = true →
      (s.waits.filter (fun w => w.link == k)).length < 4 → 24 ≤ s.waits.length →
      exec (.claim k) s = .next (u.answer k h (Answer.plain .queueFull r.code 0))) ∧
    (∀ t : State, s.holder r ≠ some k → s.waitsOn k r = false → s.outOfService r = false → s.grantable r = false →
      wait = true → (s.waits.filter (fun w => w.link == k)).length < 4 → s.waits.length < 24 →
      t = u.setWaits (insertWait ⟨k, r, (s.link k).profile.cls, tag⟩ s.waits) →
      exec (.claim k) s = .next (t.answer k h (Answer.plain .queued r.code (byteOf (t.position k r))))) ∧
    (s.holder r ≠ some k → s.waitsOn k r = false → s.outOfService r = false → s.grantable r = false → wait = false →
      s.isOffline r = true → exec (.claim k) s = .next (u.answer k h (Answer.plain .portDown r.code 0))) ∧
    (s.holder r ≠ some k → s.waitsOn k r = false → s.outOfService r = false → s.grantable r = false → wait = false →
      s.isOffline r = false → exec (.claim k) s = .next (u.answer k h (Answer.plain .busy r.code 0)))) ∧
  (∀ (ws : List Wait) (w : Wait), ws.Pairwise (fun a b => a.order ≤ b.order) →
    (insertWait w ws).Pairwise (fun a b => a.order ≤ b.order) ∧
    (insertWait w ws).filter (fun v => v.resource == w.resource) =
      (ws.filter (fun v => v.resource == w.resource && decide (w.cls.rank ≤ v.cls.rank))) ++ [w] ++
        ws.filter (fun v => v.resource == w.resource && decide (v.cls.rank < w.cls.rank)) ∧
    (∀ r : Resource, r ≠ w.resource →
      (insertWait w ws).filter (fun v => v.resource == r) = ws.filter (fun v => v.resource == r)))

/-- A grant of a port (R79, R110, R125, R132, R133): the lease is HELD by the claim, the port OPEN with SELECT asserted,
credit 2, and the frame size the smaller of the two limits; I0 is made filling when free, else I1 when free; with both
still handed by an earlier job none is filling and the pause is expressed by the flow (R121, R138); and with nothing
staged or held the idle timer starts. A grant of a zone makes its lease HELD and changes nothing else.
A grant from the queue (R77, R82): a grantable resource goes to the head of its queue, whose entry leaves the pool and
who is told GRANTED; with no entry, or not grantable, nothing changes. -/
def Obligations.GrantOpensThePort : Prop :=
  (∀ (s : State) (p : PortId) (h : Holding),
    (s.grant (.port p) h).lease (.port p) = .held h ∧
    ((s.grant (.port p) h).port p).state = .opened ∧ ((s.grant (.port p) h).port p).select = true ∧
    ((s.grant (.port p) h).port p).credit = 2 ∧
    ((s.grant (.port p) h).port p).frameSize =
      some (min (s.port p).profile.frameSize.toNat (s.link h.link).profile.maxInbound.toNat) ∧
    ((s.port p).i0 = .free → (∀ bytes : List Byte, (s.port p).i1 ≠ .filling bytes) →
      ((s.grant (.port p) h).port p).i0 = .filling []) ∧
    ((s.port p).i0 = .free → (s.port p).i1 = .free → (s.port p).fillOrder = [] → (s.port p).idleTimer = none →
      (s.port p).profile.idleLimit ≠ 0 →
      ((s.grant (.port p) h).port p).idleTimer = some ((s.port p).profile.idleLimit.toNat * 1000)) ∧
    (∀ q : PortId, q ≠ p → (s.grant (.port p) h).port q = s.port q) ∧
    (∀ r : Resource, r ≠ .port p → (s.grant (.port p) h).lease r = s.lease r) ∧
    (s.grant (.port p) h).waits = s.waits ∧ (s.grant (.port p) h).zones = s.zones ∧
    (s.grant (.port p) h).windows = s.windows) ∧
  (∀ (s : State) (z : ZoneId) (h : Holding), s.grant (.zone z) h = s.setLease (.zone z) (.held h)) ∧
  (∀ (s t : State) (p : PortId) (h : Holding) (x : Port),
    t = (s.setLease (.port p) (.held h)).setPortState p .opened →
    x = { t.port p with
      credit := 2,
      frameSize := some (min (s.port p).profile.frameSize.toNat (s.link h.link).profile.maxInbound.toNat) } →
    ((s.port p).i0 = .free → (∀ bytes : List Byte, (s.port p).i1 ≠ .filling bytes) →
      s.grant (.port p) h = t.setPort p (Port.judge { x with i0 := .filling [] })) ∧
    (∀ (bytes : List Byte) (k : LinkId) (j : Bool), (s.port p).i0 = .handed bytes k j → (s.port p).i1 = .free →
      s.grant (.port p) h = t.setPort p (Port.judge { x with i1 := .filling [] })) ∧
    (∀ (bytes more : List Byte) (k l : LinkId) (i j : Bool), (s.port p).i0 = .handed bytes k i →
      (s.port p).i1 = .handed more l j →
      s.grant (.port p) h = t.setPort p x.judge ∧ ((s.grant (.port p) h).port p).filling = none ∧
      ((s.grant (.port p) h).port p).paused = true ∧
      ((s.port p).paused = false → (s.port p).profile.flow = .lines →
        ((s.grant (.port p) h).port p).hold = true) ∧
      ((s.port p).paused = false → (s.port p).profile.flow = .codes → (s.port p).slot = none →
        ((s.grant (.port p) h).port p).slot = some .pause) ∧
      ((s.port p).paused = false → (s.port p).profile.flow = .codes → (s.port p).slot = some .resume →
        ((s.grant (.port p) h).port p).slot = none) ∧
      ((s.port p).profile.flow = .none → ((s.grant (.port p) h).port p).hold = (s.port p).hold ∧
        ((s.grant (.port p) h).port p).slot = (s.port p).slot))) ∧
  (∀ (s : State) (r : Resource), (s.grantable r = false ∨ s.queueOf r = [] → s.grantHead r = s) ∧
    (∀ (w : Wait) (ws : List Wait), s.grantable r = true → s.queueOf r = w :: ws → s.grantHead r =
      ((s.setWaits (s.waits.filter (fun v => !(v.link == w.link && v.resource == r)))).grant r
        ⟨w.link, w.cls, w.tag⟩).enterNotice w.link ⟨.granted, r, w.tag⟩))

/-- A RELEASE that has passed the checks is judged by what it finds of the lease and the link's wait, and ends or
closes the lease by kind and port state (R46, R86 to R91).
The orderly end of a job (R88, R90, R116, R140): the filling buffer goes to the holder when it holds bytes, the lease
becomes FREE, the port goes to SETTLING with its turnaround timer, and jobs completed rises.
A port that enters SETTLING with a turnaround of 0 goes on to IDLE in the same event, and the head of its queue is
granted and told (R82, R83, R116). -/
def Obligations.ReleaseIsJudgedByTheTable : Prop :=
  (∀ (s u : State) (k : LinkId) (tag : Byte) (address : Word) (r : Resource) (rights : Rights) (h : Hand),
    h = ⟨tag, address, .release r rights⟩ → Handles s k h (some r) →
    (rights.of (s.link k).profile.cls).claim = true → s.isPanel r = false → u = s.prepared k (some r) →
    (∀ held : Holding, s.lease r = .releasing held → held.link = k →
      exec (.release k) s = .next (u.answer k h (Answer.plain .already r.code 0))) ∧
    (∀ (held : Holding) (z : ZoneId), s.lease r = .held held → held.link = k → r = .zone z →
      exec (.release k) s = .next
        ((((u.detachZone z (some k)).setLease (.zone z) .free).grantHead (.zone z)).answer k h
          (Answer.plain .done r.code 0))) ∧
    (∀ (held : Holding) (p : PortId), s.lease r = .held held → held.link = k → r = .port p →
      (s.port p).state = .suspended →
      exec (.release k) s = .next
        ((((u.cut p).setLease (.port p) .free).setPortState p .offline).answer k h (Answer.plain .done r.code 1))) ∧
    (∀ (held : Holding) (p : PortId), s.lease r = .held held → held.link = k → r = .port p →
      (s.port p).state ≠ .suspended → (s.port p).fillOrder = [] →
      exec (.release k) s = .next ((u.endJob p).answer k h (Answer.plain .done r.code 0))) ∧
    (∀ (held : Holding) (p : PortId), s.lease r = .held held → held.link = k → r = .port p →
      (s.port p).state ≠ .suspended → (s.port p).fillOrder ≠ [] →
      exec (.release k) s = .next
        ((((u.setLease (.port p) (.releasing held)).setPortState p .closing).mapPort p Port.judge).answer k h
          (Answer.plain .closing r.code 0))) ∧
    (s.holder r ≠ some k → s.waitsOn k r = true →
      exec (.release k) s = .next
        ((u.setWaits (s.waits.filter (fun w => !(w.link == k && w.resource == r)))).answer k h
          (Answer.plain .done r.code 0))) ∧
    (s.holder r ≠ some k → s.waitsOn k r = false →
      exec (.release k) s = .next (u.answer k h (Answer.plain .notHolder r.code 0)))) ∧
  (∀ (s : State) (p : PortId), (s.port p).profile.turnaround ≠ 0 →
    (s.endJob p).lease (.port p) = .free ∧ ((s.endJob p).port p).state = .settling ∧
    ((s.endJob p).port p).select = false ∧
    ((s.endJob p).port p).turnTimer = some (s.port p).profile.turnaround.toNat ∧
    ((s.endJob p).port p).credit = 0 ∧ ((s.endJob p).port p).o0 = none ∧ ((s.endJob p).port p).o1 = none ∧
    ((s.endJob p).port p).idleTimer = none ∧ ((s.endJob p).port p).gatherTimer = none ∧
    ((s.endJob p).port p).frameSize = none ∧ ((s.endJob p).port p).paused = false ∧
    ((s.endJob p).port p).counters =
      { (s.port p).counters with jobsCompleted := bump (s.port p).counters.jobsCompleted } ∧
    (∀ (b : BufId) (bytes : List Byte) (h : Holding), (s.port p).filling = some (b, bytes) →
      (s.lease (.port p)).holding = some h → bytes ≠ [] →
      ((s.endJob p).link h.link).dataQ = (s.link h.link).dataQ ++ [⟨p, b, bytes.length⟩] ∧
      ((s.endJob p).port p).inb b = .handed bytes h.link false) ∧
    (∀ b : BufId, (s.port p).filling = some (b, []) → ((s.endJob p).port p).inb b = .free)) ∧
  (∀ (s : State) (p : PortId), ∃ t : State, s.endJob p = t.enterSettling p ∧ t.lease (.port p) = .free ∧
    t.waits = s.waits ∧ (∀ r : Resource, r ≠ .port p → t.lease r = s.lease r) ∧
    (t.port p).profile = (s.port p).profile ∧ (t.port p).state = (s.port p).state ∧ (t.port p).credit = 0 ∧
    (t.port p).o0 = none ∧ (t.port p).o1 = none ∧ (t.port p).idleTimer = none ∧ (t.port p).gatherTimer = none ∧
    (t.port p).frameSize = none ∧ (t.port p).paused = false ∧ (t.port p).counters =
      { (s.port p).counters with jobsCompleted := bump (s.port p).counters.jobsCompleted }) ∧
  (∀ (s u : State) (p : PortId),
    ((s.port p).profile.turnaround ≠ 0 → s.enterSettling p = (s.setPortState p .settling).mapPort p (fun x =>
      { x with turnTimer := some (s.port p).profile.turnaround.toNat })) ∧
    ((s.port p).profile.turnaround = 0 → u = (s.setPortState p .settling).setPortState p .idle →
      (s.queueOf (.port p) = [] ∨ (s.port p).profile.kind = .panel ∨ s.lease (.port p) ≠ .free →
        s.enterSettling p = u) ∧
      (∀ (w : Wait) (ws : List Wait), s.queueOf (.port p) = w :: ws → (s.port p).profile.kind = .job →
        s.lease (.port p) = .free → s.enterSettling p =
          ((u.setWaits (s.waits.filter (fun v => !(v.link == w.link && v.resource == .port p)))).grant (.port p)
            ⟨w.link, w.cls, w.tag⟩).enterNotice w.link ⟨.granted, .port p, w.tag⟩)))

/-- DATA that has passed the checks is judged for sender, then for credit, and staged whole in a free buffer (R47, R93,
R125, R126, R127).
Of two free buffers it is O0; the count of bytes sent is 0, and pause, rest and stall are judged again (R94, R120). -/
def Obligations.DataIsStagedAgainstCredit : Prop :=
  (∀ (s u : State) (k : LinkId) (tag : Byte) (address : Word) (p : PortId) (rights : Rights) (payload : List Byte)
    (h : Hand), h = ⟨tag, address, .data (.port p) rights payload⟩ → Handles s k h (some (.port p)) →
    (rights.of (s.link k).profile.cls).data = true → (s.port p).profile.kind = .job →
    1 ≤ payload.length → payload.length ≤ 512 → u = s.prepared k (some (.port p)) →
    (s.holder (.port p) ≠ some k →
      exec (.data k) s = .next (u.answer k h (Answer.plain .notHolder (Resource.port p).code 0))) ∧
    (∀ held : Holding, s.lease (.port p) = .releasing held → held.link = k →
      exec (.data k) s = .next (u.answer k h (Answer.plain .releasing (Resource.port p).code 0))) ∧
    (∀ held : Holding, s.lease (.port p) = .held held → held.link = k → (s.port p).credit = 0 →
      exec (.data k) s = .next (u.answer k h (Answer.plain .overCredit (Resource.port p).code 0))) ∧
    (∀ held : Holding, s.lease (.port p) = .held held → held.link = k → 1 ≤ (s.port p).credit →
      exec (.data k) s = .next (u.mapPort p (Port.stage payload)))) ∧
  (∀ (x : Port) (payload : List Byte),
    (x.o0 = none → (x.stage payload).o0 = some ⟨payload, 0⟩ ∧ (x.stage payload).o1 = x.o1 ∧
      (x.stage payload).fillOrder = x.fillOrder ++ [.b0]) ∧
    (x.o0 ≠ none → (x.stage payload).o1 = some ⟨payload, 0⟩ ∧ (x.stage payload).o0 = x.o0 ∧
      (x.stage payload).fillOrder = x.fillOrder ++ [.b1]) ∧
    (x.stage payload).credit = x.credit - 1 ∧ (x.stage payload).idleTimer = none ∧
    (x.stage payload).state = x.state ∧ (x.stage payload).select = x.select ∧
    (x.stage payload).i0 = x.i0 ∧ (x.stage payload).i1 = x.i1 ∧ (x.stage payload).counters = x.counters) ∧
  (∀ (x : Port) (payload : List Byte),
    (x.o0 = none → x.stage payload = Port.judge { x with
      o0 := some ⟨payload, 0⟩, fillOrder := x.fillOrder ++ [.b0], credit := x.credit - 1 }) ∧
    (x.o0 ≠ none → x.stage payload = Port.judge { x with
      o1 := some ⟨payload, 0⟩, fillOrder := x.fillOrder ++ [.b1], credit := x.credit - 1 }))

/-! ## Management -/

/-- LOAD_WINDOW (R66, R67): refused RANGE for an entry above 16 or a record that fails a check, else the record of the
entry is replaced whole.
The bytes of a record in order (R182, table 11.5.2): enabled, base, mask, kind and index of the target, and the rights of
PUBLIC, STAFF and SERVICE, in each of them bit 0 CLAIM, bit 1 DATA, bit 2 STATUS; a class has the rights of its byte
(R59). -/
def Obligations.LoadWindowReplacesTheRecord : Prop :=
  (∀ (s u : State) (k : LinkId) (tag : Byte) (address : Word) (c entry : Byte) (record : List Byte) (h : Hand),
    h = ⟨tag, address, .mgmt .loadWindow (c :: entry :: record)⟩ → record.length = 10 → Handles s k h none →
    u = s.prepared k none →
    (16 < entry.toNat → exec (.loadWindow k) s = .next (u.answer k h (Answer.plain .range 0xFF 0))) ∧
    (∀ i : WindowId, entry.toNat = i.val → Window.ofBytes i record = none →
      exec (.loadWindow k) s = .next (u.answer k h (Answer.plain .range 0xFF 0))) ∧
    (∀ (i : WindowId) (w : Window), entry.toNat = i.val → Window.ofBytes i record = some w →
      exec (.loadWindow k) s =
        .next (({ u with windows := u.windows.set i.val w }).answer k h (Answer.plain .done 0xFF 0)))) ∧
  (∀ (i : WindowId) (en bh bl mh ml kind index r0 r1 r2 : Byte),
    (Window.ofBytes i [en, bh, bl, mh, ml, kind, index, r0, r1, r2] = none ↔
      1 < en.toNat ∨ (i.val < 16 ∧ wordOf bh bl &&& wordOf mh ml ≠ 0) ∨ 1 < kind.toNat ∨
        (kind = 0 ∧ 5 < index.toNat) ∨ (kind = 1 ∧ 31 < index.toNat)) ∧
    (∀ w : Window, Window.ofBytes i [en, bh, bl, mh, ml, kind, index, r0, r1, r2] = some w →
      (w.enabled = true ↔ en = 1) ∧ w.base.toNat = bh.toNat * 256 + bl.toNat ∧
      w.mask.toNat = mh.toNat * 256 + ml.toNat ∧
      (∀ p : PortId, w.target = .port p ↔ kind = 0 ∧ index.toNat = p.val) ∧
      (∀ z : ZoneId, w.target = .zone z ↔ kind = 1 ∧ index.toNat = z.val) ∧
      (w.rights.pub.claim = r0.getLsbD 0 ∧ w.rights.pub.data = r0.getLsbD 1 ∧ w.rights.pub.status = r0.getLsbD 2) ∧
      (w.rights.staff.claim = r1.getLsbD 0 ∧ w.rights.staff.data = r1.getLsbD 1 ∧
        w.rights.staff.status = r1.getLsbD 2) ∧
      (w.rights.service.claim = r2.getLsbD 0 ∧ w.rights.service.data = r2.getLsbD 1 ∧
        w.rights.service.status = r2.getLsbD 2) ∧
      w.bytes = [en, bh, bl, mh, ml, kind, index, r0 &&& 7, r1 &&& 7, r2 &&& 7])) ∧
  (∀ rights : Rights, rights.of .pub = rights.pub ∧ rights.of .staff = rights.staff ∧
    rights.of .service = rights.service) ∧
  (∀ hi lo : Byte, (wordOf hi lo).toNat = hi.toNat * 256 + lo.toNat)

/-- LOAD_ZONE (R165): RANGE, then IN_USE while the lease is held, else the record is replaced; an enabled FREE zone grants
the head of its queue, a disabled one drops its waiters, each told DROPPED (R100).
A zone record fails exactly for a set/clear byte above 1, a panel port above 5, a coordinate pattern above 4095, or a
base with a bit under its mask (R165, R182), and an accepted one is the record that a read returns, byte for byte. -/
def Obligations.LoadZoneReplacesTheRecord : Prop :=
  (∀ (en port a b c d e f g h : Byte),
    (Zone.ofBytes [en, port, a, b, c, d, e, f, g, h] = none ↔
      1 < en.toNat ∨ 5 < port.toNat ∨ 4095 < (wordOf a b).toNat ∨ 4095 < (wordOf c d).toNat ∨
        4095 < (wordOf e f).toNat ∨ 4095 < (wordOf g h).toNat ∨ wordOf a b &&& wordOf c d ≠ 0 ∨
        wordOf e f &&& wordOf g h ≠ 0) ∧
    (∀ z : Zone, Zone.ofBytes [en, port, a, b, c, d, e, f, g, h] = some z →
      (z.enabled = true ↔ en = 1) ∧ z.panel.val = port.toNat ∧ z.xBase.toNat = (wordOf a b).toNat ∧
      z.xMask.toNat = (wordOf c d).toNat ∧ z.yBase.toNat = (wordOf e f).toNat ∧ z.yMask.toNat = (wordOf g h).toNat ∧
      z.bytes = [en, port, a, b, c, d, e, f, g, h])) ∧
  (∀ (s : State) (z : ZoneId), WaitsDropped s (s.dropWaits (.zone z)) (.zone z)) ∧
  ∀ (s u : State) (k : LinkId) (tag : Byte) (address : Word) (c index : Byte) (record : List Byte) (h : Hand),
    h = ⟨tag, address, .mgmt .loadZone (c :: index :: record)⟩ → record.length = 10 →
    (31 < index.toNat → Handles s k h none → u = s.prepared k none →
      exec (.loadZone k) s = .next (u.answer k h (Answer.plain .range 0xFF 0))) ∧
    (∀ z : ZoneId, index.toNat = z.val → Handles s k h (some (.zone z)) → u = s.prepared k (some (.zone z)) →
      (Zone.ofBytes record = none →
        exec (.loadZone k) s = .next (u.answer k h (Answer.plain .range (Resource.zone z).code 0))) ∧
      (∀ x : Zone, Zone.ofBytes record = some x → s.lease (.zone z) ≠ .free →
        exec (.loadZone k) s = .next (u.answer k h (Answer.plain .inUse (Resource.zone z).code 0))) ∧
      (∀ x : Zone, Zone.ofBytes record = some x → s.lease (.zone z) = .free → x.enabled = true →
        exec (.loadZone k) s = .next (((u.setZone z x).grantHead (.zone z)).answer k h
          (Answer.plain .done (Resource.zone z).code 0))) ∧
      (∀ x : Zone, Zone.ofBytes record = some x → s.lease (.zone z) = .free → x.enabled = false →
        exec (.loadZone k) s = .next (((u.setZone z x).dropWaits (.zone z)).answer k h
          (Answer.plain .done (Resource.zone z).code 0))))

/-- LOAD_PORT (R167): RANGE, then IN_USE unless the port is DISABLED, else every field is replaced and the flow state set
to running; state, counters and buffers stay. The format replaced is kept behind those of earlier loads for a character
still being received, and the transmitter keeps its format for a character in progress (R103).
A port profile fails exactly when a field is outside its range (R166, R182), and an accepted one is the record that a
read returns, byte for byte.
The rate codes of a port line are 0 to 7, from 1200 to 115 200 bit/s (table 11.6.6). -/
def Obligations.LoadPortReplacesTheProfile : Prop :=
  (∀ (k r pa st fl pc rc ra il fg sl ta fh fo mh mo gt sy : Byte) (size mark : Nat),
    size = (wordOf fh fo).toNat → mark = (wordOf mh mo).toNat →
    (PortProfile.ofBytes [k, r, pa, st, fl, pc, rc, ra, il, fg, sl, ta, fh, fo, mh, mo, gt, sy] = none ↔
      1 < k.toNat ∨ 7 < r.toNat ∨ 2 < pa.toNat ∨ (st ≠ 1 ∧ st ≠ 2) ∨ 2 < fl.toNat ∨ 1 < ra.toNat ∨
        (7 < sy.toNat ∧ sy ≠ 0xFF) ∨ (fl = 2 ∧ pc = rc) ∨ size < 16 ∨ 512 < size ∨ mark < 8 ∨ size < mark ∨ gt = 0) ∧
    (∀ x : PortProfile, PortProfile.ofBytes [k, r, pa, st, fl, pc, rc, ra, il, fg, sl, ta, fh, fo, mh, mo, gt, sy] =
      some x →
      (x.kind = .job ↔ k = 0) ∧ x.format.rate.code = r ∧ (x.format.parity = .none ↔ pa = 0) ∧ (x.format.parity = .odd ↔ pa = 1) ∧
      (x.format.stop = .one ↔ st = 1) ∧ (x.flow = .none ↔ fl = 0) ∧ (x.flow = .lines ↔ fl = 1) ∧ x.pauseCode = pc ∧
      x.resumeCode = rc ∧ (x.resumeAny = true ↔ ra = 1) ∧ x.idleLimit = il ∧ x.faultGrace = fg ∧ x.stallLimit = sl ∧
      x.turnaround = ta ∧ x.frameSize.toNat = size ∧ x.pauseMark.toNat = mark ∧ x.gatherTime = gt ∧
      (∀ j : LinkId, x.strayLink = some j ↔ sy.toNat = j.val) ∧
      x.bytes = [k, r, pa, st, fl, pc, rc, ra, il, fg, sl, ta, fh, fo, mh, mo, gt, sy])) ∧
  ([LineRate.r1200, .r2400, .r4800, .r9600, .r19200, .r38400, .r57600, .r115200].map LineRate.code =
    [0, 1, 2, 3, 4, 5, 6, 7]) ∧
  ∀ (s u : State) (k : LinkId) (tag : Byte) (address : Word) (c index : Byte) (record : List Byte) (h : Hand),
    h = ⟨tag, address, .mgmt .loadPort (c :: index :: record)⟩ → record.length = 18 →
    (5 < index.toNat → Handles s k h none → u = s.prepared k none →
      exec (.loadPort k) s = .next (u.answer k h (Answer.plain .range 0xFF 0))) ∧
    (∀ p : PortId, index.toNat = p.val → Handles s k h (some (.port p)) → u = s.prepared k (some (.port p)) →
      (PortProfile.ofBytes record = none →
        exec (.loadPort k) s = .next (u.answer k h (Answer.plain .range (Resource.port p).code 0))) ∧
      (∀ x : PortProfile, PortProfile.ofBytes record = some x → (s.port p).state ≠ .disabled →
        exec (.loadPort k) s = .next (u.answer k h (Answer.plain .inUse (Resource.port p).code 0))) ∧
      (∀ x : PortProfile, PortProfile.ofBytes record = some x → (s.port p).state = .disabled →
        exec (.loadPort k) s = .next ((u.setPort p
          { s.port p with
            profile := x, flow := .running, rxOldFormats := (s.port p).profile.format :: (s.port p).rxOldFormats,
            txFormat := if (s.port p).tx = .rest then x.format else (s.port p).txFormat }).answer k h
          (Answer.plain .done (Resource.port p).code 0))))

/-- LOAD_LINK (R169, R170, R171): RANGE, then LOCKOUT when no profile would be left with enabled and management right,
else the profile is replaced: a link that stays as it was is only loaded, one that is enabled comes UP when present, one
disabled by another link is torn down, and one that disables itself stays UP with its answer marked.
A loaded link profile: every field is replaced, and a changed rate goes to the receiver at once in HUNT or ARMED,
otherwise at its next frame boundary, and to the transmitter at its next; enabling clears a pending self-disable, or
brings a present link UP (R17, R33, R169, R171).
A link profile fails exactly when a field is outside its range (R168, R182), and an accepted one is the record that a
read returns, byte for byte.
The rate codes of a link are 0 to 3, from 115 200 to 921 600 bit/s (table 11.6.6).
A teardown (R34, R35, R101, R137): the link holds nothing any longer, the leases of other links stay, and every buffer of
its data queue is free, or filling and empty. -/
def Obligations.LoadLinkTakesEffect : Prop :=
  (∀ (en c mg r hh hl lh ll mh ml : Byte) (high low most : Nat),
    high = (wordOf hh hl).toNat → low = (wordOf lh ll).toNat → most = (wordOf mh ml).toNat →
    (LinkProfile.ofBytes [en, c, mg, r, hh, hl, lh, ll, mh, ml] = none ↔
      1 < en.toNat ∨ 2 < c.toNat ∨ 1 < mg.toNat ∨ 3 < r.toNat ∨ high < 256 ∨ 2048 < high ∨ high < low + 256 ∨
        most < 64 ∨ 1024 < most) ∧
    (∀ x : LinkProfile, LinkProfile.ofBytes [en, c, mg, r, hh, hl, lh, ll, mh, ml] = some x →
      (x.enabled = true ↔ en = 1) ∧ x.rate.code = r ∧ (x.cls = .pub ↔ c = 0) ∧ (x.cls = .staff ↔ c = 1) ∧ (x.mgmt = true ↔ mg = 1) ∧
      x.high.toNat = high ∧ x.low.toNat = low ∧ x.maxInbound.toNat = most ∧
      x.bytes = [en, c, mg, r, hh, hl, lh, ll, mh, ml])) ∧
  (∀ (s u : State) (k : LinkId) (tag : Byte) (address : Word) (c index : Byte) (record : List Byte) (h : Hand),
    h = ⟨tag, address, .mgmt .loadLink (c :: index :: record)⟩ → record.length = 10 → Handles s k h none →
    u = s.prepared k none →
    (7 < index.toNat ∨ LinkProfile.ofBytes record = none →
      exec (.loadLink k) s = .next (u.answer k h (Answer.plain .range 0xFF 0))) ∧
    (∀ (j : LinkId) (x : LinkProfile), index.toNat = j.val → LinkProfile.ofBytes record = some x →
      (((x.enabled = false ∨ x.mgmt = false) ∧
        ∀ i : LinkId, i ≠ j → ¬((s.link i).profile.enabled = true ∧ (s.link i).profile.mgmt = true)) →
        exec (.loadLink k) s = .next (u.answer k h (Answer.plain .lockout 0xFF 0))) ∧
      ((x.enabled = true ∧ x.mgmt = true) ∨
        (∃ i : LinkId, i ≠ j ∧ (s.link i).profile.enabled = true ∧ (s.link i).profile.mgmt = true) →
        (x.enabled = (s.link j).profile.enabled → exec (.loadLink k) s =
          .next ((u.mapLink j (Link.loadProfile x)).answer k h (Answer.plain .done 0xFF 0))) ∧
        (x.enabled = true → (s.link j).profile.enabled = false → exec (.loadLink k) s =
          .next (((u.mapLink j (Link.loadProfile x)).mapLink j Link.enable).answer k h
            (Answer.plain .done 0xFF 0))) ∧
        (x.enabled = false → (s.link j).profile.enabled = true → j = k → exec (.loadLink k) s =
          .next (((u.mapLink j (Link.loadProfile x)).mapLink j
            (fun l => { l with selfDisable := some (.running 0) })).answer k h
            ⟨.done, 0xFF, 0, [], some .selfDisable⟩)) ∧
        (x.enabled = false → (s.link j).profile.enabled = true → j ≠ k → (s.link j).up = true →
          exec (.loadLink k) s =
          .next (((u.mapLink j (Link.loadProfile x)).tearDown j).answer k h (Answer.plain .done 0xFF 0))) ∧
        (x.enabled = false → (s.link j).profile.enabled = true → j ≠ k → (s.link j).up = false →
          exec (.loadLink k) s =
          .next ((u.mapLink j (Link.loadProfile x)).answer k h (Answer.plain .done 0xFF 0)))))) ∧
  (∀ (l : Link) (x : LinkProfile),
    (l.loadProfile x).profile = x ∧ (l.loadProfile x).counters = l.counters ∧
    (l.loadProfile x).holdOut = l.holdOut ∧ (l.loadProfile x).marks = l.marks ∧
    (x.rate = l.profile.rate → (l.loadProfile x).rx = l.rx ∧ (l.loadProfile x).rxRate = l.rxRate) ∧
    (x.rate ≠ l.profile.rate →
      (l.loadProfile x).txNewRate = some x.rate ∧ (l.loadProfile x).txRate = l.txRate ∧
      (l.rx = .hunt ∨ l.rx = .armed → (l.loadProfile x).rx = .hunt ∧ (l.loadProfile x).rxRate = x.rate) ∧
      (∀ (ph : RxPhase) (a : Assembly), l.rx = .frame ph a →
        (l.loadProfile x).rx = .frame ph a ∧ (l.loadProfile x).rxRate = l.rxRate ∧
        (l.loadProfile x).rxNewRate = some x.rate)) ∧
    (l.selfDisable = none → l.present = true → l.enable = { l with rx := .hunt, holdOut := false }) ∧
    (l.selfDisable = none → l.present = false → l.enable = l) ∧
    (l.selfDisable ≠ none → l.enable.selfDisable = none ∧ l.enable.rx = l.rx ∧ l.enable.ingress = l.ingress ∧
      l.enable.notices = l.notices ∧ l.enable.control.length = l.control.length)) ∧
  ([LinkRate.r115200, .r230400, .r460800, .r921600].map LinkRate.code = [0, 1, 2, 3]) ∧
  (∀ (s : State) (k : LinkId), (s.link k).present = false ∨ (s.link k).profile.enabled = false →
    TornDown s (s.tearDown k) k ∧
    (∀ (r : Resource) (j : LinkId), s.holder r = some j → j ≠ k → (s.tearDown k).lease r = s.lease r) ∧
    (∀ e ∈ (s.link k).dataQ, ((s.tearDown k).port e.port).inb e.buf = .free ∨
      ((s.tearDown k).port e.port).inb e.buf = .filling []))

/-- SET_REPORT (R57, R172): the PORT_STATE notices of the previous report link go, and the new one, when UP, receives one
for each port with its present state; a byte that names no link and is not 0FFH is refused RANGE.
A change of a port's state sets SELECT with it and enters a PORT_STATE notice with the new state at the report link,
where that link is UP; nothing else changes (R56, R105). -/
def Obligations.SetReportGivesAFullAccount : Prop :=
  (∀ (s u : State) (k : LinkId) (tag : Byte) (address : Word) (c b : Byte) (h : Hand),
    h = ⟨tag, address, .mgmt .setReport [c, b]⟩ → Handles s k h none → u = s.prepared k none →
    (7 < b.toNat → b ≠ 0xFF → exec (.setReport k) s = .next (u.answer k h (Answer.plain .range 0xFF 0))) ∧
    (b = 0xFF → exec (.setReport k) s =
      .next ((u.setReportLink none).answer k h (Answer.plain .done 0xFF 0))) ∧
    (∀ j : LinkId, b.toNat = j.val → exec (.setReport k) s =
      .next ((u.setReportLink (some j)).answer k h (Answer.plain .done 0xFF 0)))) ∧
  (∀ (s : State) (v : Option LinkId), (s.setReportLink v).reportLink = v ∧
    (∀ (i : LinkId) (n : Notice), s.reportLink = some i → v ≠ some i →
      n ∈ ((s.setReportLink v).link i).notices → n.body.rank ≠ 8) ∧
    (∀ (j : LinkId) (p : PortId), v = some j → (s.link j).up = true →
      (⟨.portState (s.port p).state, .port p, 0⟩ : Notice) ∈ ((s.setReportLink v).link j).notices) ∧
    (∀ (j : LinkId), v = some j → (s.link j).up = false → s.reportLink ≠ some j →
      ((s.setReportLink v).link j).notices = (s.link j).notices)) ∧
  (∀ (s t : State) (p : PortId) (st : PortState),
    t = s.setPort p { s.port p with
      state := st, select := decide (st = .opened ∨ st = .suspended ∨ st = .closing) } →
    (s.reportLink = none → s.setPortState p st = t) ∧
    (∀ k : LinkId, s.reportLink = some k → (s.link k).up = false → s.setPortState p st = t) ∧
    (∀ k : LinkId, s.reportLink = some k → (s.link k).up = true → s.setPortState p st = t.setLink k
      { s.link k with notices := mergeNotice (s.link k).notices ⟨.portState st, .port p, 0⟩ } ∧
      (⟨.portState st, .port p, 0⟩ : Notice) ∈ ((s.setPortState p st).link k).notices))

/-- STATUS answers DONE with the report of the resource, and changes nothing but the link's own frame in hand, notices
and control queue (R48).
READ_WINDOW, READ_ZONE, READ_PORT and READ_LINK: RANGE for an index out of range, else the whole record as it stands,
and nothing else changes (R173).
READ_LEASE (R102, R173): RANGE for a number that is no resource, else the lease record, the idle timer remaining and
the wait queue in order, and nothing else changes.
The codes of the port states are 0 to 6 (table 11.6.4), those of the classes 0 to 2 (table 11.6.7), and the idle timer is
sent in three bytes, the highest first, 0 when absent (table 11.5.3). -/
def Obligations.ReadsReturnTheRecord : Prop :=
  (∀ (s u : State) (k : LinkId) (tag : Byte) (address : Word) (r : Resource) (rights : Rights) (h : Hand)
    (more : List Byte), h = ⟨tag, address, .status r rights⟩ → Handles s k h (some r) →
    (rights.of (s.link k).profile.cls).status = true → u = s.prepared k (some r) →
    more = [(match s.lease r with | .free => 0x00 | .held _ => 0x01 | .releasing _ => 0x02),
      (if s.holder r = some k then 0x01 else 0x00), byteOf (s.position k r),
      byteOf (s.waits.filter (fun w => w.resource == r)).length,
      (match r with | .port p => (s.port p).state.code | .zone z => if (s.zone z).enabled then 0x01 else 0x00),
      (match r with | .port p => if s.holder r = some k then byteOf (s.port p).credit else 0x00 | .zone _ => 0x00)] →
    exec (.status k) s = .next (u.answer k h ⟨.done, r.code, 0, more, none⟩)) ∧
  (∀ (s : State) (k : LinkId) (tag : Byte) (address : Word) (c b : Byte) (h : Hand),
    (h = ⟨tag, address, .mgmt .readWindow [c, b]⟩ → Handles s k h none →
      (16 < b.toNat → exec (.readWindow k) s =
        .next ((s.prepared k none).answer k h (Answer.plain .range 0xFF 0))) ∧
      (∀ i : WindowId, b.toNat = i.val → exec (.readWindow k) s =
        .next ((s.prepared k none).answer k h ⟨.done, 0xFF, 0, s.windows[i.val].bytes, none⟩))) ∧
    (h = ⟨tag, address, .mgmt .readZone [c, b]⟩ →
      (31 < b.toNat → Handles s k h none → exec (.readZone k) s =
        .next ((s.prepared k none).answer k h (Answer.plain .range 0xFF 0))) ∧
      (∀ z : ZoneId, b.toNat = z.val → Handles s k h (some (.zone z)) → exec (.readZone k) s =
        .next ((s.prepared k (some (.zone z))).answer k h
          ⟨.done, (Resource.zone z).code, 0, (s.zone z).bytes, none⟩))) ∧
    (h = ⟨tag, address, .mgmt .readPort [c, b]⟩ →
      (5 < b.toNat → Handles s k h none → exec (.readPort k) s =
        .next ((s.prepared k none).answer k h (Answer.plain .range 0xFF 0))) ∧
      (∀ p : PortId, b.toNat = p.val → Handles s k h (some (.port p)) → exec (.readPort k) s =
        .next ((s.prepared k (some (.port p))).answer k h
          ⟨.done, (Resource.port p).code, 0, (s.port p).profile.bytes, none⟩))) ∧
    (h = ⟨tag, address, .mgmt .readLink [c, b]⟩ → Handles s k h none →
      (7 < b.toNat → exec (.readLink k) s =
        .next ((s.prepared k none).answer k h (Answer.plain .range 0xFF 0))) ∧
      (∀ j : LinkId, b.toNat = j.val → exec (.readLink k) s =
        .next ((s.prepared k none).answer k h ⟨.done, 0xFF, 0,
          LinkProfile.bytes { (s.link j).profile with
            enabled := (s.link j).profile.enabled && (s.link j).selfDisable.isNone }, none⟩)))) ∧
  (∀ (s : State) (k : LinkId) (tag : Byte) (address : Word) (c b : Byte) (h : Hand),
    h = ⟨tag, address, .mgmt .readLease [c, b]⟩ →
    (Resource.ofCode b = none → Handles s k h none → exec (.readLease k) s =
      .next ((s.prepared k none).answer k h (Answer.plain .range 0xFF 0))) ∧
    (∀ (r : Resource) (more : List Byte), b = r.code → Handles s k h (some r) →
      more = (match s.lease r with
          | .free => [0x00, 0xFF, 0xFF, 0x00]
          | .held x => [0x01, byteOf x.link.val, byteOf x.cls.rank, x.tag]
          | .releasing x => [0x02, byteOf x.link.val, byteOf x.cls.rank, x.tag]) ++
        timerBytes (match r with | .port p => (s.port p).idleTimer | .zone _ => none) ++
        [byteOf (s.queueOf r).length] ++
        (s.queueOf r).flatMap (fun w => [byteOf w.link.val, byteOf w.cls.rank, w.tag]) →
      exec (.readLease k) s = .next ((s.prepared k (some r)).answer k h ⟨.done, b, 0, more, none⟩))) ∧
  ([PortState.disabled, .offline, .idle, .opened, .suspended, .closing, .settling].map PortState.code =
    [0, 1, 2, 3, 4, 5, 6]) ∧
  ([Class.pub, .staff, .service].map Class.rank = [0, 1, 2]) ∧
  timerBytes none = [0, 0, 0] ∧
  (∀ n : Nat, n < 16777216 → ∃ high mid low : Byte, timerBytes (some n) = [high, mid, low] ∧
    high.toNat * 65536 + mid.toNat * 256 + low.toNat = n)

/-- READ_COUNTS (R174): RANGE for a wrong kind, index or flag; else the counters as they stand, which the clear flag then
sets to zero.
The counters stand in the order of table 11.5.3, two bytes each, high byte first; one more on a counter stops at
65535 (R18, R37, R123, R162). -/
def Obligations.ReadCountsReturnsAndClears : Prop :=
  (∀ c : LinkCounters, c.bytes = [hiByte c.accepted, loByte c.accepted, hiByte c.checkErrors, loByte c.checkErrors,
    hiByte c.lengthErrors, loByte c.lengthErrors, hiByte c.aborted, loByte c.aborted, hiByte c.escapeErrors,
    loByte c.escapeErrors, hiByte c.overruns, loByte c.overruns, hiByte c.refused, loByte c.refused,
    hiByte c.touchLost, loByte c.touchLost]) ∧
  (∀ c : PortCounters, c.bytes = [hiByte c.jobsCompleted, loByte c.jobsCompleted, hiByte c.jobsCut, loByte c.jobsCut,
    hiByte c.parityErrors, loByte c.parityErrors, hiByte c.framingErrors, loByte c.framingErrors, hiByte c.breaks,
    loByte c.breaks, hiByte c.strayBytes, loByte c.strayBytes, hiByte c.overruns, loByte c.overruns,
    hiByte c.reports, loByte c.reports, hiByte c.malformed, loByte c.malformed, hiByte c.strayTouches,
    loByte c.strayTouches]) ∧
  (∀ c : Word, (hiByte c).toNat * 256 + (loByte c).toNat = c.toNat ∧ (bump c).toNat = min (c.toNat + 1) 65535) ∧
  ∀ (s : State) (k : LinkId) (tag : Byte) (address : Word) (c kind index flag : Byte) (h : Hand),
    h = ⟨tag, address, .mgmt .readCounts [c, kind, index, flag]⟩ →
    (1 < kind.toNat ∨ (kind = 0 ∧ (7 < index.toNat ∨ 1 < flag.toNat)) ∨ (kind = 1 ∧ 5 < index.toNat) →
      Handles s k h none →
      exec (.readCounts k) s = .next ((s.prepared k none).answer k h (Answer.plain .range 0xFF 0))) ∧
    (∀ p : PortId, kind = 1 → index.toNat = p.val → Handles s k h (some (.port p)) →
      (1 < flag.toNat → exec (.readCounts k) s =
        .next ((s.prepared k (some (.port p))).answer k h (Answer.plain .range (Resource.port p).code 0))) ∧
      (flag = 0 → exec (.readCounts k) s =
        .next ((s.prepared k (some (.port p))).answer k h
          ⟨.done, (Resource.port p).code, 0, (s.port p).counters.bytes, none⟩)) ∧
      (flag = 1 → exec (.readCounts k) s =
        .next (((s.prepared k (some (.port p))).setPort p
          { s.port p with counters := ⟨0, 0, 0, 0, 0, 0, 0, 0, 0, 0⟩ }).answer k h
          ⟨.done, (Resource.port p).code, 0, (s.port p).counters.bytes, none⟩))) ∧
    (∀ j : LinkId, kind = 0 → index.toNat = j.val → Handles s k h none →
      (flag = 0 → exec (.readCounts k) s =
        .next ((s.prepared k none).answer k h ⟨.done, 0xFF, 0, (s.link j).counters.bytes, none⟩)) ∧
      (flag = 1 → exec (.readCounts k) s =
        .next (((s.prepared k none).mapLink j (fun l => { l with counters := ⟨0, 0, 0, 0, 0, 0, 0, 0⟩ })).answer k h
          ⟨.done, 0xFF, 0, (s.link j).counters.bytes, none⟩)))

/-- REVOKE (R99, R175): RANGE for a number that is no resource; DONE with detail 0 and no change on a FREE lease; else the
lease is revoked with cause MANAGED, detail 1. The resource numbers are 00H to 05H for ports and 20H to 3FH for zones. -/
def Obligations.RevokeEndsAHeldLease : Prop :=
  (∀ p : PortId, (Resource.port p).code.toNat = p.val) ∧
  (∀ z : ZoneId, (Resource.zone z).code.toNat = 32 + z.val) ∧
  (∀ (b : Byte) (r : Resource), Resource.ofCode b = some r ↔ b = r.code) ∧
  ∀ (s : State) (k : LinkId) (tag : Byte) (address : Word) (c b : Byte) (h : Hand),
    h = ⟨tag, address, .mgmt .revoke [c, b]⟩ →
    (Resource.ofCode b = none → Handles s k h none → exec (.revoke k) s =
      .next ((s.prepared k none).answer k h (Answer.plain .range 0xFF 0))) ∧
    (∀ r : Resource, b = r.code → Handles s k h (some r) →
      (s.lease r = .free → exec (.revoke k) s =
        .next ((s.prepared k (some r)).answer k h (Answer.plain .done b 0))) ∧
      (s.lease r ≠ .free → exec (.revoke k) s =
        .next (((s.prepared k (some r)).revoke r (.cause .managed)).answer k h (Answer.plain .done b 1))))

/-- ENABLE_PORT (R108, R144, R176): RANGE above 5; detail 1 and no change unless DISABLED; else the port goes to IDLE when
ready and to OFFLINE otherwise, a JOB port with its flow state running.
DISABLE_PORT (R100, R107, R144, R160, R176): RANGE above 5; detail 1 and no change on a DISABLED port; a JOB port's
lease is revoked with cause DISABLED, its waiters dropped and its engine stopped; a PANEL port frees its contacts.
A drop of the waiters of a resource (R100): its entries leave the pool and all others stay; each UP link that waited is
told DROPPED with cause DISABLED and the tag of its entry; links that did not wait, ports, leases and tables stay.
A disabled JOB port keeps no timer, code, pause or remembered state and no HOLD (R107); a PANEL port leaves IDLE first
when
it is IDLE (R160). -/
def Obligations.EnableAndDisablePort : Prop :=
  (∀ (s u : State) (k : LinkId) (tag : Byte) (address : Word) (c b : Byte) (h : Hand),
    h = ⟨tag, address, .mgmt .enablePort [c, b]⟩ →
    (5 < b.toNat → Handles s k h none → exec (.enablePort k) s =
      .next ((s.prepared k none).answer k h (Answer.plain .range 0xFF 0))) ∧
    (∀ p : PortId, b.toNat = p.val → Handles s k h (some (.port p)) → u = s.prepared k (some (.port p)) →
      ((s.port p).state ≠ .disabled → exec (.enablePort k) s =
        .next (u.answer k h (Answer.plain .done (Resource.port p).code 1))) ∧
      ((s.port p).state = .disabled → (s.port p).profile.kind = .job → (s.port p).isReady = true →
        s.queueOf (.port p) = [] → exec (.enablePort k) s =
        .next (((u.mapPort p (fun x => { x with flow := .running })).setPortState p .idle).answer k h
          (Answer.plain .done (Resource.port p).code 0))) ∧
      ((s.port p).state = .disabled → (s.port p).profile.kind = .job → (s.port p).isReady = false →
        exec (.enablePort k) s =
        .next (((u.mapPort p (fun x => { x with flow := .running })).setPortState p .offline).answer k h
          (Answer.plain .done (Resource.port p).code 0))) ∧
      ((s.port p).state = .disabled → (s.port p).profile.kind = .panel →
        exec (.enablePort k) s =
        .next ((u.setPortState p (if (s.port p).isReady then .idle else .offline)).answer k h
          (Answer.plain .done (Resource.port p).code 0))))) ∧
  ((∀ (s u : State) (k : LinkId) (tag : Byte) (address : Word) (c b : Byte) (h : Hand),
    h = ⟨tag, address, .mgmt .disablePort [c, b]⟩ →
    (5 < b.toNat → Handles s k h none → exec (.disablePort k) s =
      .next ((s.prepared k none).answer k h (Answer.plain .range 0xFF 0))) ∧
    (∀ p : PortId, b.toNat = p.val → Handles s k h (some (.port p)) → u = s.prepared k (some (.port p)) →
      ((s.port p).state = .disabled → exec (.disablePort k) s =
        .next (u.answer k h (Answer.plain .done (Resource.port p).code 1))) ∧
      ((s.port p).state ≠ .disabled → (s.port p).profile.kind = .job → exec (.disablePort k) s =
        .next ((u.disableJob p).answer k h (Answer.plain .done (Resource.port p).code 0))) ∧
      ((s.port p).state ≠ .disabled → (s.port p).profile.kind = .panel → exec (.disablePort k) s =
        .next ((u.disablePanel p).answer k h (Answer.plain .done (Resource.port p).code 0))))) ∧
  (∀ (s : State) (p : PortId), ((s.disableJob p).port p).state = .disabled ∧
    (s.disableJob p).lease (.port p) = .free ∧ (∀ w ∈ (s.disableJob p).waits, w.resource ≠ .port p) ∧
    ((s.disableJob p).port p).select = false ∧ ((s.disableJob p).port p).hold = false ∧
    ((s.disableJob p).port p).paused = false ∧ ((s.disableJob p).port p).slot = none ∧
    ((s.disableJob p).port p).graceTimer = none ∧ ((s.disableJob p).port p).stallTimer = none ∧
    ((s.disableJob p).port p).turnTimer = none ∧ ((s.disableJob p).port p).idleTimer = none ∧
    ((s.disableJob p).port p).flow = (s.port p).flow ∧ WaitsDropped s (s.disableJob p) (.port p)) ∧
  (∀ (s : State) (r : Resource), WaitsDropped s (s.dropWaits r) r ∧
    s.dropWaits r = { s with waits := (s.dropWaits r).waits, links := (s.dropWaits r).links } ∧
    ∀ k : LinkId, (s.dropWaits r).link k = { s.link k with notices := ((s.dropWaits r).link k).notices } ∧
      ((∀ w ∈ s.waits, w.resource = r → w.link ≠ k) → (s.dropWaits r).link k = s.link k)) ∧
  (∀ (s : State) (p : PortId), ((s.disablePanel p).port p).state = .disabled ∧
    (s.disablePanel p).lease = s.lease ∧
    ((s.port p).state = .idle → ((s.disablePanel p).port p).assembler = .waiting ∧
      ∀ c : ContactId, ((s.disablePanel p).contact p c).state = .free))) ∧
  (∀ (s t : State) (p : PortId), t = (s.revokePort p (.cause .disabled)).dropWaits (.port p) →
    s.disableJob p = (t.setPort p { t.port p with
      remembered := none, idleTimer := none, graceTimer := none, stallTimer := none, turnTimer := none,
      slot := none, paused := false, hold := false }).setPortState p .disabled) ∧
  (∀ (s : State) (p : PortId),
    ((s.port p).state = .idle → s.disablePanel p = (s.panelLeavesIdle p).setPortState p .disabled) ∧
    ((s.port p).state ≠ .idle → s.disablePanel p = s.setPortState p .disabled))

/-! ## Ports -/

/-- READY_CHANGE_TAKEN at a JOB port, of a change held to its tenth tick (R104, R108, R109, R113, R116, R180): it moves
OFFLINE, IDLE and SETTLING ports by their readiness and revokes an open job with cause OFFLINE.
At any port nothing is taken before the tenth tick, and a level given by the command that is another than the line had
moves the line and begins its count again, after the change that is due (the model's operand, log entry 3).
A port that enters IDLE (R83, R109): with an empty queue it is IDLE and its lease stays; else the head of its queue is
granted in the same event, which opens the port, and is told GRANTED, and its entry leaves the pool. -/
def Obligations.ReadyMovesAJobPort : Prop :=
  (∀ (s t : State) (p : PortId) (level : Bool), s.inReset = false → (s.port p).profile.kind = .job →
    10 ≤ (s.port p).readyTicks → (s.port p).readyPin = level →
    t = s.setPort p { s.port p with ready := level, readyTicks := 0 } →
    ((s.port p).ready = level → exec (.readyChangeTaken p level) s = .next t) ∧
    ((s.port p).ready = false → level = true → (s.port p).state = .offline → (s.port p).fault = false →
      exec (.readyChangeTaken p level) s = .next (t.enterIdle p)) ∧
    ((s.port p).ready = false → level = true → (s.port p).state = .offline → (s.port p).fault = true →
      exec (.readyChangeTaken p level) s = .next t) ∧
    ((s.port p).ready = false → level = true → (s.port p).state ≠ .offline →
      exec (.readyChangeTaken p level) s = .next t) ∧
    ((s.port p).ready = true → level = false → (s.port p).fault = false →
      (s.port p).state = .idle ∨ (s.port p).state = .settling → exec (.readyChangeTaken p level) s =
      .next ((t.mapPort p (fun x => { x with turnTimer := none })).setPortState p .offline)) ∧
    ((s.port p).ready = true → level = false → (s.port p).fault = true →
      (s.port p).state = .idle ∨ (s.port p).state = .settling → exec (.readyChangeTaken p level) s = .next t) ∧
    ((s.port p).ready = true → level = false → (s.port p).state.isJob = true →
      exec (.readyChangeTaken p level) s = .next (t.revokePort p (.cause .offline))) ∧
    ((s.port p).ready = true → level = false → (s.port p).state = .disabled ∨ (s.port p).state = .offline →
      exec (.readyChangeTaken p level) s = .next t)) ∧
  (∀ (s : State) (p : PortId) (level : Bool), s.inReset = false →
    ((s.port p).readyTicks < 10 → (s.port p).readyPin = level → exec (.readyChangeTaken p level) s = .next s) ∧
    ((s.port p).readyTicks < 10 → (s.port p).readyPin ≠ level → exec (.readyChangeTaken p level) s =
      .next (s.setPort p { s.port p with readyPin := level, readyTicks := 0 })) ∧
    (10 ≤ (s.port p).readyTicks → (s.port p).readyPin ≠ level →
      ∃ t : State, exec (.readyChangeTaken p (s.port p).readyPin) s = .next t ∧ exec (.readyChangeTaken p level) s =
        .next (t.setPort p { t.port p with readyPin := level, readyTicks := 0 }))) ∧
  (∀ (s u : State) (p : PortId), u = s.setPortState p .idle →
    (s.queueOf (.port p) = [] ∨ (s.port p).profile.kind = .panel ∨ s.lease (.port p) ≠ .free →
      s.enterIdle p = u ∧ ((s.enterIdle p).port p).state = .idle ∧
      (s.enterIdle p).lease (.port p) = s.lease (.port p)) ∧
    (∀ (w : Wait) (ws : List Wait), s.queueOf (.port p) = w :: ws → (s.port p).profile.kind = .job →
      s.lease (.port p) = .free →
      s.enterIdle p = ((u.setWaits (s.waits.filter (fun v => !(v.link == w.link && v.resource == .port p)))).grant
        (.port p) ⟨w.link, w.cls, w.tag⟩).enterNotice w.link ⟨.granted, .port p, w.tag⟩ ∧
      ((s.enterIdle p).port p).state = .opened ∧
      (s.enterIdle p).lease (.port p) = .held ⟨w.link, w.cls, w.tag⟩ ∧
      ((s.link w.link).up = true →
        (⟨.granted, .port p, w.tag⟩ : Notice) ∈ ((s.enterIdle p).link w.link).notices)))

/-- FAULT_CHANGE_TAKEN at a JOB port, of a change held to its tenth tick (R104, R108, R109, R111, R112, R116, R180): a
fault suspends an open or closing job, or revokes it with a grace of 0; its end resumes a suspended one, telling the
holder RESUMED or withdrawing a SUSPENDED still pending (R53); other states follow the port's readiness, and a DISABLED
port only keeps its line state.
At any port nothing is taken before the tenth tick, and a level given by the command that is another than the line had
moves the line and begins its count again, after the change that is due (the model's operand, log entry 3). -/
def Obligations.FaultSuspendsAndResumes : Prop :=
  (∀ (s t : State) (p : PortId) (level : Bool), s.inReset = false → (s.port p).profile.kind = .job →
    10 ≤ (s.port p).faultTicks → (s.port p).faultPin = level →
    t = s.setPort p { s.port p with fault := level, faultTicks := 0 } →
    ((s.port p).fault = level → exec (.faultChangeTaken p level) s = .next t) ∧
    ((s.port p).state = .disabled ∨ (s.port p).ready = false → exec (.faultChangeTaken p level) s = .next t) ∧
    (level = true → (s.port p).state = .offline ∨ (s.port p).state = .suspended →
      exec (.faultChangeTaken p level) s = .next t) ∧
    (level = false → (s.port p).state ≠ .offline → (s.port p).state ≠ .suspended →
      exec (.faultChangeTaken p level) s = .next t) ∧
    ((s.port p).fault = true → level = false → (s.port p).ready = true → (s.port p).state = .offline →
      exec (.faultChangeTaken p level) s = .next (t.enterIdle p)) ∧
    ((s.port p).fault = false → level = true → (s.port p).ready = true →
      (s.port p).state = .idle ∨ (s.port p).state = .settling → exec (.faultChangeTaken p level) s =
      .next ((t.mapPort p (fun x => { x with turnTimer := none })).setPortState p .offline)) ∧
    ((s.port p).fault = false → level = true → (s.port p).ready = true →
      (s.port p).state = .opened ∨ (s.port p).state = .closing → (s.port p).profile.faultGrace = 0 →
      exec (.faultChangeTaken p level) s = .next (t.revokePort p (.cause .fault))) ∧
    ((s.port p).fault = false → level = true → (s.port p).ready = true →
      (s.port p).state = .opened ∨ (s.port p).state = .closing → (s.port p).profile.faultGrace ≠ 0 →
      ∃ v : State, exec (.faultChangeTaken p level) s = .next v ∧ (v.port p).state = .suspended ∧
        (v.port p).remembered = some (s.port p).state ∧
        (v.port p).graceTimer = some ((s.port p).profile.faultGrace.toNat * 1000) ∧
        (v.port p).stallTimer = none ∧ (v.port p).idleTimer = none ∧ (v.port p).select = true ∧
        (v.port p).o0 = (s.port p).o0 ∧ (v.port p).o1 = (s.port p).o1 ∧ (v.port p).credit = (s.port p).credit ∧
        (∀ h : Holding, (s.lease (.port p)).holding = some h → (s.link h.link).up = true →
          (⟨.suspended, .port p, h.tag⟩ : Notice) ∈ (v.link h.link).notices) ∧
        (∀ r : Resource, v.lease r = s.lease r)) ∧
    (∀ st : PortState, (s.port p).fault = true → level = false → (s.port p).ready = true →
      (s.port p).state = .suspended → (s.port p).remembered = some st → st = .opened ∨ (s.port p).fillOrder ≠ [] →
      ∃ v : State, exec (.faultChangeTaken p level) s = .next v ∧ (v.port p).state = st ∧
        (v.port p).remembered = none ∧ (v.port p).graceTimer = none ∧ (v.port p).o0 = (s.port p).o0 ∧
        (v.port p).o1 = (s.port p).o1 ∧ (v.port p).credit = (s.port p).credit ∧
        (∀ h : Holding, (s.lease (.port p)).holding = some h → (s.link h.link).up = true →
          ((∃ q ∈ (s.link h.link).notices, q.resource = .port p ∧ q.body = .suspended) →
            ∀ m ∈ (v.link h.link).notices, m.resource = .port p → m.body ≠ .suspended) ∧
          ((∀ q ∈ (s.link h.link).notices, q.resource = .port p → q.body ≠ .suspended) →
            (⟨.resumed, .port p, h.tag⟩ : Notice) ∈ (v.link h.link).notices)) ∧
        (∀ r : Resource, v.lease r = s.lease r)) ∧
    ((s.port p).fault = true → level = false → (s.port p).ready = true → (s.port p).state = .suspended →
      (s.port p).remembered = some .closing → (s.port p).fillOrder = [] →
      ∃ v : State, exec (.faultChangeTaken p level) s = .next (v.endJob p) ∧ (v.port p).state = .closing ∧
        (v.port p).remembered = none ∧ (v.port p).graceTimer = none ∧ (∀ r : Resource, v.lease r = s.lease r) ∧
        ((s.port p).profile.turnaround ≠ 0 →
          (v.endJob p).lease (.port p) = .free ∧ ((v.endJob p).port p).state = .settling) ∧
        (∀ h : Holding, (s.lease (.port p)).holding = some h → (s.link h.link).up = true →
          (⟨.released, .port p, h.tag⟩ : Notice) ∈ (v.link h.link).notices))) ∧
  (∀ (s : State) (p : PortId) (level : Bool), s.inReset = false →
    ((s.port p).faultTicks < 10 → (s.port p).faultPin = level → exec (.faultChangeTaken p level) s = .next s) ∧
    ((s.port p).faultTicks < 10 → (s.port p).faultPin ≠ level → exec (.faultChangeTaken p level) s =
      .next (s.setPort p { s.port p with faultPin := level, faultTicks := 0 })) ∧
    (10 ≤ (s.port p).faultTicks → (s.port p).faultPin ≠ level →
      ∃ t : State, exec (.faultChangeTaken p (s.port p).faultPin) s = .next t ∧ exec (.faultChangeTaken p level) s =
        .next (t.setPort p { t.port p with faultPin := level, faultTicks := 0 })))

/-- A PANEL port follows its readiness, by changes held to their tenth tick: OFFLINE becoming ready goes to IDLE, IDLE
ceasing to be ready frees its contacts and goes to OFFLINE, and a DISABLED one only keeps its line states (R144, R148,
R160, R180).
What a panel leaving IDLE does (R160): the assembler waits; each captured contact sends a synthetic UP with its last
coordinates to the holder of its zone, in order of contact number; every contact is FREE with its last coordinates
kept, and no lease changes. -/
def Obligations.PanelPortFollowsItsLines : Prop :=
  (∀ (s t : State) (p : PortId) (ready fault : Bool) (c : Instr), s.inReset = false →
    (s.port p).profile.kind = .panel →
    (c = .readyChangeTaken p ready ∧ fault = (s.port p).fault ∧ ready ≠ (s.port p).ready ∧
        10 ≤ (s.port p).readyTicks ∧ (s.port p).readyPin = ready ∧
        t = s.setPort p { s.port p with ready := ready, readyTicks := 0 }) ∨
      (c = .faultChangeTaken p fault ∧ ready = (s.port p).ready ∧ fault ≠ (s.port p).fault ∧
        10 ≤ (s.port p).faultTicks ∧ (s.port p).faultPin = fault ∧
        t = s.setPort p { s.port p with fault := fault, faultTicks := 0 }) →
    ((s.port p).state = .offline → ready = true → fault = false → exec c s = .next (t.setPortState p .idle)) ∧
    ((s.port p).state = .idle → (s.port p).isReady = true →
      exec c s = .next ((t.panelLeavesIdle p).setPortState p .offline)) ∧
    ((s.port p).state = .offline → ready = false ∨ fault = true → exec c s = .next t) ∧
    ((s.port p).state = .disabled → exec c s = .next t)) ∧
  (∀ (s : State) (p : PortId), ((s.panelLeavesIdle p).port p).assembler = .waiting ∧
    (∀ c : ContactId, (s.panelLeavesIdle p).contact p c = { s.contact p c with state := .free }) ∧
    (∀ k : LinkId, (s.panelLeavesIdle p).link k = (s.link k).takeReports (s.upsOfPanel p k)) ∧
    (s.panelLeavesIdle p).lease = s.lease ∧ (∀ q : PortId, q ≠ p → (s.panelLeavesIdle p).port q = s.port q)) ∧
  (∀ (s : State) (p : PortId) (k : LinkId) (r : Report), r ∈ s.upsOfPanel p k ↔
    ∃ (c : ContactId) (z : ZoneId), (s.contact p c).state = .captured z ∧ s.holder (.zone z) = some k ∧
      r = ⟨some z, p, .up, c, (s.contact p c).lastX, (s.contact p c).lastY⟩) ∧
  (∀ (s : State) (p : PortId) (k : LinkId),
    (s.upsOfPanel p k).Pairwise (fun a b => a.contact < b.contact))

/-- A revoke of a port's lease (R97, R114): FREE, the job cut, the former holder told unless its link went DOWN, and the
port in the state its cause gives, which for a turnaround of 0 is what the entry of SETTLING leads to (R116); a FREE
lease is left as it is.
A cut (R115, R141): staged data goes, timers, credit and frame size become absent or 0, the pause is released, jobs
cut rises, and each inbound buffer is freed and its entry taken back, but for one of an earlier job and one whose frame
is in transmission, which is when its link sends a DATA frame and its entry is at the head (R29).
The character of job data in progress is completed and belongs to no buffer any longer (R115). -/
def Obligations.RevokeCutsTheJob : Prop :=
  ((∀ (s : State) (p : PortId) (why : RevokeReason), s.lease (.port p) = .free → s.revokePort p why = s) ∧
  (∀ (s : State) (p : PortId) (why : RevokeReason) (h : Holding), (s.lease (.port p)).holding = some h →
    (s.port p).profile.turnaround ≠ 0 →
    (s.revokePort p why).lease (.port p) = .free ∧
    ((s.revokePort p why).port p).counters =
      { (s.port p).counters with jobsCut := bump (s.port p).counters.jobsCut } ∧
    ((s.revokePort p why).port p).o0 = none ∧ ((s.revokePort p why).port p).o1 = none ∧
    ((s.revokePort p why).port p).credit = 0 ∧ ((s.revokePort p why).port p).idleTimer = none ∧
    (why = .cause .fault ∨ why = .cause .offline → ((s.revokePort p why).port p).state = .offline) ∧
    (why = .cause .idle ∨ why = .cause .stall ∨ why = .cause .managed ∨ why = .linkDown →
      ((s.revokePort p why).port p).state = if (s.port p).isReady then .settling else .offline) ∧
    (∀ c : Cause, why = .cause c → (s.link h.link).up = true →
      (⟨.revoked c, .port p, h.tag⟩ : Notice) ∈ ((s.revokePort p why).link h.link).notices) ∧
    (why = .linkDown → ∀ n : Notice, n.body.rank ≠ 8 →
      (n ∈ ((s.revokePort p why).link h.link).notices ↔ n ∈ (s.link h.link).notices))) ∧
  (∀ (s : State) (p : PortId) (why : RevokeReason) (h : Holding), (s.lease (.port p)).holding = some h →
    (why = .cause .idle ∨ why = .cause .stall ∨ why = .cause .managed ∨ why = .linkDown →
      (s.port p).isReady = true →
      s.revokePort p why = (((s.cut p).setLease (.port p) .free).noticeRevoked (.port p) h why).enterSettling p) ∧
    (why = .cause .fault ∨ why = .cause .offline ∨ (why ≠ .cause .disabled ∧ (s.port p).isReady = false) →
      s.revokePort p why =
        (((s.cut p).setLease (.port p) .free).noticeRevoked (.port p) h why).setPortState p .offline) ∧
    (why = .cause .disabled →
      s.revokePort p why = ((s.cut p).setLease (.port p) .free).noticeRevoked (.port p) h why))) ∧
  (∀ (s : State) (p : PortId),
    ((s.cut p).port p).o0 = none ∧ ((s.cut p).port p).o1 = none ∧ ((s.cut p).port p).fillOrder = [] ∧
    ((s.cut p).port p).credit = 0 ∧ ((s.cut p).port p).frameSize = none ∧
    ((s.cut p).port p).graceTimer = none ∧ ((s.cut p).port p).stallTimer = none ∧
    ((s.cut p).port p).idleTimer = none ∧ ((s.cut p).port p).gatherTimer = none ∧
    ((s.cut p).port p).remembered = none ∧ ((s.cut p).port p).paused = false ∧
    ((s.cut p).port p).flow = (s.port p).flow ∧ ((s.cut p).port p).tx = (s.port p).tx.orphan ∧
    ((s.cut p).port p).counters = { (s.port p).counters with jobsCut := bump (s.port p).counters.jobsCut } ∧
    (∀ q : PortId, q ≠ p → (s.cut p).port q = s.port q) ∧
    (∀ (b : BufId) (bytes : List Byte), (s.port p).inb b = .filling bytes → ((s.cut p).port p).inb b = .free) ∧
    (∀ (b : BufId) (bytes : List Byte) (k : LinkId), (s.port p).inb b = .handed bytes k false →
      ((s.cut p).port p).inb b = .handed bytes k false ∧
      (∀ e ∈ (s.link k).dataQ, e.port = p → e.buf = b → e ∈ ((s.cut p).link k).dataQ)) ∧
    (∀ (b : BufId) (bytes : List Byte) (k : LinkId), (s.port p).inb b = .handed bytes k true →
      (s.link k).transmits p b = false → ((s.cut p).port p).inb b = .free ∧
      (∀ e ∈ ((s.cut p).link k).dataQ, ¬(e.port = p ∧ e.buf = b))) ∧
    (∀ (b : BufId) (bytes : List Byte) (k : LinkId), (s.port p).inb b = .handed bytes k true →
      (s.link k).transmits p b = true → ((s.cut p).port p).inb b = .handed bytes k false ∧
      (∀ e ∈ (s.link k).dataQ, e.port = p → e.buf = b → e ∈ ((s.cut p).link k).dataQ)) ∧
    (∀ (k : LinkId), ∀ e ∈ (s.link k).dataQ, e.port ≠ p → e ∈ ((s.cut p).link k).dataQ)) ∧
  (∀ (l : Link) (p : PortId) (b : BufId), l.transmits p b = true ↔
    ∃ (f : Frame) (w : List Byte) (e : DataEntry) (es : List DataEntry),
      l.tx = .sending f w .data ∧ l.dataQ = e :: es ∧ e.port = p ∧ e.buf = b) ∧
  (∀ (s : State) (r : Resource) (h : Holding), s.noticeRevoked r h .linkDown = s ∧
    ∀ c : Cause, s.noticeRevoked r h (.cause c) = s.enterNotice h.link ⟨.revoked c, r, h.tag⟩) ∧
  (∀ (b : BufId) (d : Byte) (tx : PortTx), PortTx.orphan (.job b d) = .tail d ∧
    ((∀ (c : BufId) (e : Byte), tx ≠ .job c e) → tx.orphan = tx))

/-- The idle, grace and stall timers revoke when a tick has brought them to 0 (R95, R112, R120, R179); a timer that does
not run, or has time left, brings no event.
The turnaround of a SETTLING port ends (R83, R116): with an empty queue the port is IDLE; else the head of its queue
is granted, with its class at arrival and tag, and told.
The gather timer hands the filling buffer (R135, R136): an entry at the tail of the holder's data queue, the buffer
handed during this job, the other one filling when it is free. -/
def Obligations.PortTimersExpire : Prop :=
  (∀ (s : State) (p : PortId), s.inReset = false →
    ((s.port p).idleTimer = some 0 → exec (.idleTimerExpiry p) s =
      .next ((s.setPort p { s.port p with idleTimer := none }).revokePort p (.cause .idle))) ∧
    ((s.port p).graceTimer = some 0 → exec (.graceTimerExpiry p) s =
      .next ((s.setPort p { s.port p with graceTimer := none }).revokePort p (.cause .fault))) ∧
    ((s.port p).stallTimer = some 0 → exec (.stallTimerExpiry p) s =
      .next ((s.setPort p { s.port p with stallTimer := none }).revokePort p (.cause .stall)))) ∧
  (∀ (s : State) (p : PortId),
    ((s.port p).idleTimer ≠ some 0 → exec (.idleTimerExpiry p) s = .next s) ∧
    ((s.port p).graceTimer ≠ some 0 → exec (.graceTimerExpiry p) s = .next s) ∧
    ((s.port p).stallTimer ≠ some 0 → exec (.stallTimerExpiry p) s = .next s) ∧
    ((s.port p).turnTimer ≠ some 0 → exec (.turnaroundTimerExpiry p) s = .next s) ∧
    ((s.port p).gatherTimer ≠ some 0 → exec (.gatherTimerExpiry p) s = .next s)) ∧
  (∀ (s : State) (p : PortId) (u : State), s.inReset = false → (s.port p).state = .settling →
    (s.port p).turnTimer = some 0 → (s.port p).profile.kind = .job → s.lease (.port p) = .free →
    u = (s.setPort p { s.port p with turnTimer := none }).setPortState p .idle →
    (s.queueOf (.port p) = [] → exec (.turnaroundTimerExpiry p) s = .next u) ∧
    (∀ (w : Wait) (ws : List Wait), s.queueOf (.port p) = w :: ws → exec (.turnaroundTimerExpiry p) s =
      .next (((u.setWaits (s.waits.filter (fun v => !(v.link == w.link && v.resource == .port p)))).grant (.port p)
        ⟨w.link, w.cls, w.tag⟩).enterNotice w.link ⟨.granted, .port p, w.tag⟩))) ∧
  (∀ (s : State) (p : PortId) (b : BufId) (bytes : List Byte) (h : Holding), s.inReset = false →
    (s.port p).gatherTimer = some 0 → (s.port p).filling = some (b, bytes) → bytes ≠ [] →
    (s.lease (.port p)).holding = some h →
    ∃ t : State, exec (.gatherTimerExpiry p) s = .next t ∧
      t.link h.link = { s.link h.link with dataQ := (s.link h.link).dataQ ++ [⟨p, b, bytes.length⟩] } ∧
      (∀ k : LinkId, k ≠ h.link → t.link k = s.link k) ∧
      (t.port p).inb b = .handed bytes h.link true ∧ (t.port p).gatherTimer = none ∧
      ((s.port p).inb b.other = .free → (t.port p).inb b.other = .filling []) ∧
      (∀ q : PortId, q ≠ p → t.port q = s.port q) ∧ (∀ r : Resource, t.lease r = s.lease r) ∧ t.waits = s.waits)

/-- A character received at a JOB port (R119, R122, R134, R139): a break, the error counters, codes, and bytes stored,
lost or stray, under each flow. Under CODES a byte with an error is data, and a byte that is data sets the flow state
running when resume-any is set.
The character is judged in the format it was begun in: the present one when no LOAD_PORT came since its start bit, else
the one that the first of them replaced (R103).
A break has every data, parity and stop position of the format at the start-bit level; a parity error is a number of ones
that is even under ODD or odd under EVEN; a framing error is a first stop bit at the start-bit level, and the second is
not checked (R103, R122).
A parity error raises the parity errors counter, a framing error the framing errors counter, both at once as well
(R123). -/
def Obligations.CharacterAtAJobPort : Prop :=
  (∀ (s : State) (p : PortId) (c : RxChar) (f : LineFormat) (error : Bool) (x y : Port), s.inReset = false →
    (s.port p).profile.kind = .job → f = (s.port p).rxFormat c →
    error = (RxChar.parityError f c || RxChar.framingError c) →
    x = { s.port p with
      rxOldFormats := [],
      counters := (s.port p).counters.countErrors (RxChar.parityError f c) (RxChar.framingError c) } →
    y = (if (s.port p).profile.flow = .codes ∧ (s.port p).profile.resumeAny = true then
        Port.judge { x with flow := .running } else x) →
    (RxChar.isBreak f c = true → exec (.portCharacterReceived p c) s = .next (s.setPort p
      { s.port p with
        rxOldFormats := [],
        counters := { (s.port p).counters with breaks := bump (s.port p).counters.breaks } })) ∧
    (RxChar.isBreak f c = false → (s.port p).profile.flow = .codes → error = false →
      c.data = (s.port p).profile.pauseCode →
      exec (.portCharacterReceived p c) s = .next (s.setPort p (Port.judge { x with flow := .stopped }))) ∧
    (RxChar.isBreak f c = false → (s.port p).profile.flow = .codes → error = false →
      c.data = (s.port p).profile.resumeCode → (s.port p).profile.pauseCode ≠ (s.port p).profile.resumeCode →
      exec (.portCharacterReceived p c) s = .next (s.setPort p (Port.judge { x with flow := .running }))) ∧
    (RxChar.isBreak f c = false →
      (s.port p).profile.flow ≠ .codes ∨ error = true ∨
        (c.data ≠ (s.port p).profile.pauseCode ∧ c.data ≠ (s.port p).profile.resumeCode) →
      ((s.port p).state.isJob = false →
        exec (.portCharacterReceived p c) s = .next (s.setPort p
          { y with counters := { y.counters with strayBytes := bump y.counters.strayBytes } })) ∧
      ((s.port p).state.isJob = true → (s.port p).filling = none →
        exec (.portCharacterReceived p c) s = .next (s.setPort p
          { y with counters := { y.counters with overruns := bump y.counters.overruns } })) ∧
      (∀ (b : BufId) (bytes : List Byte), (s.port p).state.isJob = true → (s.port p).filling = some (b, bytes) →
        (s.port p).frameSize ≠ some (bytes.length + 1) →
        exec (.portCharacterReceived p c) s = .next (s.setPort p (Port.judge
          { y.setInb b (.filling (bytes ++ [c.data])) with
            gatherTimer := some (s.port p).profile.gatherTime.toNat }))) ∧
      (∀ (b : BufId) (bytes : List Byte) (h : Holding), (s.port p).state.isJob = true →
        (s.port p).filling = some (b, bytes) → (s.port p).frameSize = some (bytes.length + 1) →
        (s.lease (.port p)).holding = some h →
        ∃ t : State, exec (.portCharacterReceived p c) s = .next t ∧
          (t.port p).inb b = .handed (bytes ++ [c.data]) h.link true ∧ (t.port p).gatherTimer = none ∧
          (t.port p).flow = y.flow ∧ (t.port p).counters = x.counters ∧
          ((s.port p).inb b.other = .free → (t.port p).inb b.other = .filling []) ∧
          (t.link h.link).dataQ = (s.link h.link).dataQ ++ [⟨p, b, bytes.length + 1⟩]))) ∧
  (∀ (x : Port) (c : RxChar), (c.loads = 0 → x.rxFormat c = x.profile.format) ∧
    (∀ (n : Nat) (f : LineFormat), c.loads = n + 1 → x.rxOldFormats[n]? = some f → x.rxFormat c = f)) ∧
  (∀ (f : LineFormat) (c : RxChar) (ones : Nat),
    ones = ([c.data.getLsbD 0, c.data.getLsbD 1, c.data.getLsbD 2, c.data.getLsbD 3, c.data.getLsbD 4,
      c.data.getLsbD 5, c.data.getLsbD 6, c.data.getLsbD 7, c.parityBit].filter id).length →
    (RxChar.isBreak f c = true ↔ c.data = 0 ∧ (f.parity = .none ∨ c.parityBit = false) ∧ c.stop1 = false ∧
      (f.stop = .one ∨ c.stop2 = false)) ∧
    (RxChar.parityError f c = true ↔ (f.parity = .odd ∧ ones % 2 = 0) ∨ (f.parity = .even ∧ ones % 2 = 1)) ∧
    (RxChar.framingError c = true ↔ c.stop1 = false)) ∧
  (∀ (n : PortCounters) (parity framing : Bool), n.countErrors parity framing = { n with
    parityErrors := if parity then bump n.parityErrors else n.parityErrors,
    framingErrors := if framing then bump n.framingErrors else n.framingErrors })

/-- The inbound pause of a port is judged (R138) and acts on the line by its flow (R121). -/
def Obligations.InboundPauseIsExpressed : Prop :=
  ∀ x : Port,
    (x.wantsPause = true ↔ x.state.isJob = true ∧ (x.filling = none ∨
      ∃ (b : BufId) (bytes : List Byte), x.filling = some (b, bytes) ∧
        x.profile.pauseMark.toNat ≤ bytes.length ∧ x.inb b.other ≠ .free)) ∧
    x.judgePause.paused = x.wantsPause ∧
    (x.wantsPause = x.paused → x.judgePause = x) ∧
    (x.wantsPause ≠ x.paused → x.profile.flow = .none → x.judgePause = { x with paused := x.wantsPause }) ∧
    (x.wantsPause ≠ x.paused → x.profile.flow = .lines →
      x.judgePause = { x with paused := x.wantsPause, hold := x.wantsPause }) ∧
    (x.wantsPause ≠ x.paused → x.profile.flow = .codes → x.slot = none →
      x.judgePause = { x with
        paused := x.wantsPause, slot := some (if x.wantsPause then FlowCode.pause else FlowCode.resume) }) ∧
    (x.wantsPause ≠ x.paused → x.profile.flow = .codes →
      x.slot = some (if x.wantsPause then FlowCode.resume else FlowCode.pause) →
      x.judgePause = { x with paused := x.wantsPause, slot := none })

/-- The idle timer runs while the job is at rest, from the full idle limit at each beginning (R94), and the stall timer
while outbound is held by flow, from the full stall limit (R120); each becomes absent when its condition ends.
A byte of job data waits while no character of job data is in progress, and BUSY is the level last read (the model's
reading, log entry 14).
Every judgement of a port judges the pause, the rest and the stall. -/
def Obligations.IdleAndStallTimersFollow : Prop :=
  ∀ x : Port,
    (x.atRest = true ↔ x.state = .opened ∧ x.fillOrder = [] ∧ x.profile.idleLimit ≠ 0 ∧
      ∀ b : BufId, x.inb b = .free ∨ x.inb b = .filling []) ∧
    (x.atRest = false → x.judgeRest = { x with idleTimer := none }) ∧
    (x.atRest = true → x.idleTimer = none →
      x.judgeRest = { x with idleTimer := some (x.profile.idleLimit.toNat * 1000) }) ∧
    (x.atRest = true → x.idleTimer ≠ none → x.judgeRest = x) ∧
    (x.outHeld = true ↔ (x.state = .opened ∨ x.state = .closing) ∧ x.fillOrder ≠ [] ∧
      (∀ (b : BufId) (d : Byte), x.tx ≠ .job b d) ∧
      ((x.profile.flow = .lines ∧ x.busyPin = true) ∨ (x.profile.flow = .codes ∧ x.flow = .stopped))) ∧
    (x.outHeld = false ∨ x.profile.stallLimit = 0 → x.judgeStall = { x with stallTimer := none }) ∧
    (x.outHeld = true → x.profile.stallLimit ≠ 0 → x.stallTimer = none →
      x.judgeStall = { x with stallTimer := some (x.profile.stallLimit.toNat * 1000) }) ∧
    (x.outHeld = true → x.profile.stallLimit ≠ 0 → x.stallTimer ≠ none → x.judgeStall = x) ∧
    x.judge = ((x.judgePause).judgeRest).judgeStall

/-- A boundary of a port transmitter at rest (R117, R118, R119): a code from the slot, else the next byte of the oldest
buffer when the port is OPEN or CLOSING and flow permits, else rest; a DISABLED or PANEL port sends nothing.
BUSY found negated (R118): under LINES, at rest, a code in the slot or else a byte of job data that waits is begun as at
any boundary; with nothing to send, under another flow or with a character in progress, only the level is noted.
The levels of a character on a port line (R103): a start bit, eight data bits least significant first, under ODD or EVEN
the parity bit that makes the number of ones odd or even, and one or two stop bits. -/
def Obligations.PortTransmitterChooses : Prop :=
  (∀ (s : State) (p : PortId) (busy : Bool) (x : Port), s.inReset = false → (s.port p).tx = .rest →
    x = { s.port p with busyPin := busy, txBits := [], txFormat := (s.port p).profile.format } →
    ((s.port p).profile.kind = .panel ∨ (s.port p).state = .disabled →
      exec (.portCharacterSent p busy) s = .next (s.setPort p x.judge)) ∧
    (∀ c : FlowCode, (s.port p).profile.kind = .job → (s.port p).state ≠ .disabled → (s.port p).slot = some c →
      exec (.portCharacterSent p busy) s = .next (s.setPort p (Port.judge
        { x with slot := none, tx := .code (x.codeByte c), txBits := charBits x.profile.format (x.codeByte c) }))) ∧
    (∀ (b : BufId) (bs : List BufId) (o : OutBuf) (d : Byte), (s.port p).profile.kind = .job →
      (s.port p).slot = none → (s.port p).state = .opened ∨ (s.port p).state = .closing →
      (s.port p).fillOrder = b :: bs → (s.port p).outb b = some o → o.bytes[o.sent]? = some d →
      ((s.port p).profile.flow = .lines → busy = false) →
      ((s.port p).profile.flow = .codes → (s.port p).flow = .running) →
      exec (.portCharacterSent p busy) s = .next (s.setPort p (Port.judge
        { x with tx := .job b d, txBits := charBits x.profile.format d }))) ∧
    ((s.port p).slot = none →
      (s.port p).fillOrder = [] ∨ ((s.port p).state ≠ .opened ∧ (s.port p).state ≠ .closing) ∨
        ((s.port p).profile.flow = .lines ∧ busy = true) ∨
        ((s.port p).profile.flow = .codes ∧ (s.port p).flow = .stopped) →
      exec (.portCharacterSent p busy) s = .next (s.setPort p x.judge))) ∧
  (∀ (s : State) (p : PortId), s.inReset = false →
    (∀ (b : BufId) (bs : List BufId) (o : OutBuf) (d : Byte), (s.port p).profile.kind = .job →
      (s.port p).profile.flow = .lines → (s.port p).tx = .rest → (s.port p).slot = none →
      (s.port p).state = .opened ∨ (s.port p).state = .closing →
      (s.port p).fillOrder = b :: bs → (s.port p).outb b = some o → o.bytes[o.sent]? = some d →
      exec (.busyNegated p) s = .next (s.setPort p (Port.judge
        { s.port p with
          busyPin := false, tx := .job b d, txBits := charBits (s.port p).profile.format d,
          txFormat := (s.port p).profile.format }))) ∧
    ((s.port p).profile.flow ≠ .lines ∨ (s.port p).tx ≠ .rest → exec (.busyNegated p) s =
      .next (s.setPort p (Port.judge { s.port p with busyPin := false }))) ∧
    (∀ x : Port, (s.port p).profile.flow = .lines → (s.port p).tx = .rest →
      x = { s.port p with busyPin := false, txBits := [], txFormat := (s.port p).profile.format } →
      ((s.port p).profile.kind = .panel ∨ (s.port p).state = .disabled →
        exec (.busyNegated p) s = .next (s.setPort p x.judge)) ∧
      ((s.port p).slot = none →
        (s.port p).fillOrder = [] ∨ ((s.port p).state ≠ .opened ∧ (s.port p).state ≠ .closing) →
        exec (.busyNegated p) s = .next (s.setPort p x.judge)) ∧
      (∀ c : FlowCode, (s.port p).profile.kind = .job → (s.port p).state ≠ .disabled → (s.port p).slot = some c →
        exec (.busyNegated p) s = .next (s.setPort p (Port.judge
          { x with slot := none, tx := .code (x.codeByte c), txBits := charBits x.profile.format (x.codeByte c) }))))) ∧
  (∀ (f : LineFormat) (b : Byte) (data stops : List Bool),
    data = [b.getLsbD 0, b.getLsbD 1, b.getLsbD 2, b.getLsbD 3, b.getLsbD 4, b.getLsbD 5, b.getLsbD 6, b.getLsbD 7] →
    stops = (if f.stop = .one then [true] else [true, true]) →
    (f.parity = .none → charBits f b = [false] ++ data ++ stops) ∧
    (f.parity ≠ .none → ∃ q : Bool, charBits f b = [false] ++ data ++ [q] ++ stops ∧
      (((data ++ [q]).filter id).length % 2 = 1 ↔ f.parity = .odd))) ∧
  (∀ x : Port, x.codeByte .pause = x.profile.pauseCode ∧ x.codeByte .resume = x.profile.resumeCode)

/-- PORT_CHARACTER_SENT is the completion of the character in progress, with BUSY read, and the choice of the next.
A byte of job data has left the line (R128, R129, R130): before the last of its buffer the count of bytes sent rises;
after the last the buffer is free, the credit rises, the holder of a HELD lease is told, and a CLOSING port with nothing
left completes its drain: the former holder is told RELEASED and the job ends; with a byte left it stays CLOSING.
A code, or a byte of a job that has ended, has left the line, or none was in progress: only the transmitter is at rest. -/
def Obligations.CharacterSentAdvancesOrDrains : Prop :=
  (∀ (s : State) (p : PortId) (busy : Bool), s.inReset = false →
    exec (.portCharacterSent p busy) s =
      .next (((s.setPort p { s.port p with busyPin := busy }).characterDone p).mapPort p (fun x => x.choose.judge))) ∧
  (∀ (s : State) (p : PortId) (b : BufId) (d : Byte) (o : OutBuf), (s.port p).tx = .job b d →
    (s.port p).outb b = some o →
    (o.sent + 1 < o.bytes.length → s.characterDone p =
      s.setPort p (Port.setOutb { s.port p with tx := .rest } b (some ⟨o.bytes, o.sent + 1⟩))) ∧
    (o.bytes.length ≤ o.sent + 1 →
      (s.port p).state ≠ .closing ∨ (s.port p).fillOrder.filter (fun y => !(y == b)) ≠ [] →
      ((s.characterDone p).port p).outb b = none ∧ ((s.characterDone p).port p).credit = (s.port p).credit + 1 ∧
      ((s.characterDone p).port p).fillOrder = (s.port p).fillOrder.filter (fun y => !(y == b)) ∧
      ((s.characterDone p).port p).state = (s.port p).state ∧
      (∀ r : Resource, (s.characterDone p).lease r = s.lease r) ∧
      (∀ h : Holding, s.lease (.port p) = .held h → (s.link h.link).up = true →
        ((s.characterDone p).link h.link).notices = mergeNotice (s.link h.link).notices ⟨.credit 1, .port p, h.tag⟩) ∧
      (∀ h : Holding, s.lease (.port p) = .releasing h → (s.characterDone p).links = s.links)) ∧
    (∀ h : Holding, o.bytes.length ≤ o.sent + 1 → (s.port p).state = .closing →
      (s.port p).fillOrder.filter (fun y => !(y == b)) = [] → s.lease (.port p) = .releasing h →
      ∃ v : State, s.characterDone p = v.endJob p ∧
        ((s.port p).profile.turnaround ≠ 0 →
          (s.characterDone p).lease (.port p) = .free ∧ ((s.characterDone p).port p).state = .settling) ∧
        (v.port p).state = .closing ∧ (v.port p).outb b = none ∧ (v.port p).credit = (s.port p).credit + 1 ∧
        (v.port p).tx = .rest ∧ (∀ r : Resource, v.lease r = s.lease r) ∧
        ((s.link h.link).up = true → (⟨.released, .port p, h.tag⟩ : Notice) ∈ (v.link h.link).notices ∧
          ((s.port p).profile.turnaround ≠ 0 →
            (⟨.released, .port p, h.tag⟩ : Notice) ∈ ((s.characterDone p).link h.link).notices)))) ∧
  (∀ (s : State) (p : PortId), (∀ (b : BufId) (d : Byte), (s.port p).tx ≠ .job b d) →
    s.characterDone p = s.setPort p { s.port p with tx := .rest })

/-! ## Panels -/

/-- A byte or a break at a PANEL port (R146, R147, R148): report assembly in IDLE, which an error byte and a break
end, and
nothing but line counters elsewhere.
A complete report read from its five bytes (R146, R181): phase from bits 6 and 5, contact from bits 3 to 0, each
coordinate six bits times 64 plus six bits; a phase of 11b or a contact above 9 is malformed.
Each error raises its own line counter, parity errors or framing errors, and a malformed report the malformed counter
(R123,
R162). -/
def Obligations.TouchReportsAreAssembled : Prop :=
  (∀ (s u : State) (p : PortId) (c : RxChar), s.inReset = false → (s.port p).profile.kind = .panel →
    RxChar.isBreak ((s.port p).rxFormat c) c = true →
    u = s.setPort p { s.port p with
      rxOldFormats := [],
      counters := { (s.port p).counters with breaks := bump (s.port p).counters.breaks } } →
    ((s.port p).state ≠ .idle ∨ (s.port p).assembler = .waiting → exec (.portCharacterReceived p c) s = .next u) ∧
    (∀ (lead : Byte) (data : List Byte), (s.port p).state = .idle → (s.port p).assembler = .assembling lead data →
      exec (.portCharacterReceived p c) s =
        .next (u.mapPort p (fun x => ({ x with assembler := .waiting } : Port).countMalformed)))) ∧
  (∀ (s u : State) (p : PortId) (c : RxChar) (f : LineFormat), s.inReset = false →
    (s.port p).profile.kind = .panel → f = (s.port p).rxFormat c → RxChar.isBreak f c = false →
    u = s.setPort p { s.port p with
      rxOldFormats := [],
      counters := (s.port p).counters.countErrors (RxChar.parityError f c) (RxChar.framingError c) } →
    ((s.port p).state ≠ .idle → exec (.portCharacterReceived p c) s = .next u) ∧
    ((s.port p).state = .idle → RxChar.parityError f c = true ∨ RxChar.framingError c = true →
      (s.port p).assembler = .waiting → exec (.portCharacterReceived p c) s = .next u) ∧
    (∀ (lead : Byte) (data : List Byte), (s.port p).state = .idle →
      RxChar.parityError f c = true ∨ RxChar.framingError c = true → (s.port p).assembler = .assembling lead data →
      exec (.portCharacterReceived p c) s =
        .next (u.mapPort p (fun x => ({ x with assembler := .waiting } : Port).countMalformed))) ∧
    ((s.port p).state = .idle → RxChar.parityError f c = false → RxChar.framingError c = false →
      (s.port p).assembler = .waiting → c.data.getLsbD 7 = true → exec (.portCharacterReceived p c) s =
        .next (u.mapPort p (fun x => { x with assembler := .assembling c.data [] }))) ∧
    ((s.port p).state = .idle → RxChar.parityError f c = false → RxChar.framingError c = false →
      (s.port p).assembler = .waiting → c.data.getLsbD 7 = false → exec (.portCharacterReceived p c) s =
        .next (u.mapPort p Port.countMalformed)) ∧
    (∀ (lead : Byte) (data : List Byte), (s.port p).state = .idle → RxChar.parityError f c = false →
      RxChar.framingError c = false → (s.port p).assembler = .assembling lead data → c.data.getLsbD 7 = true →
      exec (.portCharacterReceived p c) s =
        .next (u.mapPort p (fun x => ({ x with assembler := .assembling c.data [] } : Port).countMalformed))) ∧
    (∀ (lead : Byte) (data : List Byte), (s.port p).state = .idle → RxChar.parityError f c = false →
      RxChar.framingError c = false → (s.port p).assembler = .assembling lead data → data.length < 3 →
      c.data.getLsbD 7 = false → exec (.portCharacterReceived p c) s =
        .next (u.mapPort p (fun x => { x with assembler := .assembling lead (data ++ [c.data]) }))) ∧
    (∀ lead d1 d2 d3 : Byte, (s.port p).state = .idle → RxChar.parityError f c = false →
      RxChar.framingError c = false → (s.port p).assembler = .assembling lead [d1, d2, d3] →
      c.data.getLsbD 7 = false → exec (.portCharacterReceived p c) s =
        .next ((u.mapPort p (fun x => { x with assembler := .waiting })).completeReport p lead d1 d2 d3 c.data))) ∧
  (∀ (s : State) (p : PortId) (lead d1 d2 d3 d4 : Byte),
    (lead.toNat / 32 % 4 = 3 ∨ 9 < lead.toNat % 16 →
      s.completeReport p lead d1 d2 d3 d4 = s.mapPort p Port.countMalformed) ∧
    (∀ (c : ContactId) (ph : Phase) (x y : Coord), lead.toNat % 16 = c.val →
      (lead.toNat / 32 % 4 = 0 ∧ ph = .down) ∨ (lead.toNat / 32 % 4 = 1 ∧ ph = .move) ∨
        (lead.toNat / 32 % 4 = 2 ∧ ph = .up) →
      x.toNat = d1.toNat % 64 * 64 + d2.toNat % 64 → y.toNat = d3.toNat % 64 * 64 + d4.toNat % 64 →
      s.completeReport p lead d1 d2 d3 d4 =
        (s.mapPort p (fun q => { q with counters := { q.counters with reports := bump q.counters.reports } })).handleReport
          p ph c x y)) ∧
  (∀ (n : PortCounters) (parity framing : Bool), n.countErrors parity framing = { n with
    parityErrors := if parity then bump n.parityErrors else n.parityErrors,
    framingErrors := if framing then bump n.framingErrors else n.framingErrors }) ∧
  (∀ x : Port, x.countMalformed = { x with counters := { x.counters with malformed := bump x.counters.malformed } })

/-- The deciding zone of a report is the lowest-numbered enabled zone of the panel that agrees with both coordinates in
every bit its masks do not free (R150). -/
def Obligations.LookupFindsTheLowestZone : Prop :=
  (∀ (z : Zone) (p : PortId) (x y : Coord), z.matches p x y = true ↔
    z.enabled = true ∧ z.panel = p ∧
      (∀ i : Nat, i < 12 → z.xMask.getLsbD i = false → x.getLsbD i = z.xBase.getLsbD i) ∧
      (∀ i : Nat, i < 12 → z.yMask.getLsbD i = false → y.getLsbD i = z.yBase.getLsbD i)) ∧
  (∀ (s : State) (p : PortId) (x y : Coord) (z : ZoneId),
    s.zoneAt p x y = some z ↔
      (s.zone z).matches p x y = true ∧ ∀ v : ZoneId, v < z → (s.zone v).matches p x y = false) ∧
  (∀ (s : State) (p : PortId) (x y : Coord),
    s.zoneAt p x y = none ↔ ∀ v : ZoneId, (s.zone v).matches p x y = false)

/-- Reports by the state of their contact (R153 to R158): a DOWN is looked up, after the synthetic UP of a contact
that was
CAPTURED; a MOVE of a FREE contact is looked up; else a CAPTURED one goes to the holder of its zone, a DETACHED one to
the stray link; the last coordinates are set at the end.
A report for a link arrives at its touch queue (R25); an UP of a FREE contact raises the malformed counter (R155). -/
def Obligations.ContactTableRoutesReports : Prop :=
  (∀ (s : State) (p : PortId) (c : ContactId) (x y : Coord),
    (∀ (ph : Phase) (z : ZoneId) (h : Holding),
      (ph = .down ∧ ∀ v : ZoneId, (s.contact p c).state ≠ .captured v) ∨
        (ph = .move ∧ (s.contact p c).state = .free) → s.zoneAt p x y = some z → s.lease (.zone z) = .held h →
      s.handleReport p ph c x y =
      (s.setContact p c ⟨.captured z, x, y⟩).queueReport h.link ⟨some z, p, ph, c, x, y⟩) ∧
    (∀ ph : Phase, (ph = .down ∧ ∀ z : ZoneId, (s.contact p c).state ≠ .captured z) ∨
        (ph = .move ∧ (s.contact p c).state = .free) →
      (∀ (z : ZoneId) (h : Holding), s.zoneAt p x y = some z → s.lease (.zone z) ≠ .held h) →
      s.handleReport p ph c x y =
      ((s.setContact p c ⟨.detached, x, y⟩).mapPort p (fun q =>
        { q with counters := { q.counters with strayTouches := bump q.counters.strayTouches } })).stray p ph c x y) ∧
    (∀ (z : ZoneId) (k : LinkId), (s.contact p c).state = .captured z → s.holder (.zone z) = some k →
      s.handleReport p .move c x y =
      (s.setContact p c ⟨.captured z, x, y⟩).queueReport k ⟨some z, p, .move, c, x, y⟩) ∧
    (∀ (z : ZoneId) (k : LinkId), (s.contact p c).state = .captured z → s.holder (.zone z) = some k →
      s.handleReport p .up c x y =
      (s.setContact p c ⟨.free, x, y⟩).queueReport k ⟨some z, p, .up, c, x, y⟩) ∧
    ((s.contact p c).state = .detached → s.handleReport p .move c x y =
      (s.setContact p c ⟨.detached, x, y⟩).stray p .move c x y) ∧
    ((s.contact p c).state = .detached → s.handleReport p .up c x y =
      (s.setContact p c ⟨.free, x, y⟩).stray p .up c x y) ∧
    ((s.contact p c).state = .free → s.handleReport p .up c x y =
      (s.setContact p c ⟨.free, x, y⟩).mapPort p Port.countMalformed) ∧
    (∀ (z v : ZoneId) (k : LinkId) (h : Holding), (s.contact p c).state = .captured z → s.holder (.zone z) = some k →
      s.zoneAt p x y = some v → s.lease (.zone v) = .held h → s.handleReport p .down c x y =
      ((s.queueReport k ⟨some z, p, .up, c, (s.contact p c).lastX, (s.contact p c).lastY⟩).setContact p c
        ⟨.captured v, x, y⟩).queueReport h.link ⟨some v, p, .down, c, x, y⟩) ∧
    (∀ (z : ZoneId) (k : LinkId), (s.contact p c).state = .captured z → s.holder (.zone z) = some k →
      (∀ (v : ZoneId) (h : Holding), s.zoneAt p x y = some v → s.lease (.zone v) ≠ .held h) →
      s.handleReport p .down c x y =
      (((s.queueReport k ⟨some z, p, .up, c, (s.contact p c).lastX, (s.contact p c).lastY⟩).setContact p c
        ⟨.detached, x, y⟩).mapPort p (fun q =>
        { q with counters := { q.counters with strayTouches := bump q.counters.strayTouches } })).stray p .down c x y) ∧
    (∀ ph : Phase, ((s.port p).profile.strayLink = none → s.stray p ph c x y = s) ∧
      (∀ k : LinkId, (s.port p).profile.strayLink = some k →
        s.stray p ph c x y = s.queueReport k ⟨none, p, ph, c, x, y⟩))) ∧
  (∀ (s : State) (k : LinkId) (r : Report), s.queueReport k r = s.setLink k ((s.link k).takeReport r)) ∧
  (∀ x : Port, x.countMalformed = { x with counters := { x.counters with malformed := bump x.counters.malformed } })

/-- The end of a zone's lease, by revoke or by its holder's RELEASE (R87, R97, R99, R159): every contact captured by the
zone becomes DETACHED, all others stay; the former holder is sent the synthetic UPs of those contacts in order of
contact number, none when its link went DOWN; the lease is FREE or goes to the head of the queue. A revoke with a cause
is told to the former holder. -/
def Obligations.ZoneLeaseEndDetachesContacts : Prop :=
  (∀ (s t : State) (z : ZoneId) (h : Holding) (p : PortId) (tell : Option LinkId),
    (s.lease (.zone z)).holding = some h → p = (s.zone z).panel →
    (∃ c : Cause, t = s.revokeZone z (.cause c) ∧ tell = some h.link) ∨
      (t = s.revokeZone z .linkDown ∧ tell = none) ∨ (t = s.releaseZone h.link z ∧ tell = some h.link) →
    (∀ c : ContactId, (s.contact p c).state = .captured z → t.contact p c = { s.contact p c with state := .detached }) ∧
    (∀ c : ContactId, (s.contact p c).state ≠ .captured z → t.contact p c = s.contact p c) ∧
    (∀ k : LinkId, tell = some k →
      t.link k = { (s.link k).takeReports (s.upsOfZone p z) with notices := (t.link k).notices }) ∧
    (∀ k : LinkId, tell ≠ some k → t.link k = { s.link k with notices := (t.link k).notices }) ∧
    (s.queueOf (.zone z) = [] → t.lease (.zone z) = .free ∧ t.waits = s.waits) ∧
    (∀ (w : Wait) (ws : List Wait), s.queueOf (.zone z) = w :: ws → (s.zone z).enabled = true →
      t.lease (.zone z) = .held ⟨w.link, w.cls, w.tag⟩ ∧
      ((s.link w.link).up = true → (⟨.granted, .zone z, w.tag⟩ : Notice) ∈ (t.link w.link).notices)) ∧
    (∀ q : PortId, q ≠ p → t.port q = s.port q)) ∧
  (∀ (s : State) (z : ZoneId) (h : Holding) (c : Cause), (s.lease (.zone z)).holding = some h →
    (s.link h.link).up = true →
    (⟨.revoked c, .zone z, h.tag⟩ : Notice) ∈ ((s.revokeZone z (.cause c)).link h.link).notices) ∧
  (∀ (s : State) (p : PortId) (z : ZoneId) (r : Report), r ∈ s.upsOfZone p z ↔
    ∃ c : ContactId, (s.contact p c).state = .captured z ∧
      r = ⟨some z, p, .up, c, (s.contact p c).lastX, (s.contact p c).lastY⟩) ∧
  (∀ (s : State) (p : PortId) (z : ZoneId), (s.upsOfZone p z).Pairwise (fun a b => a.contact < b.contact)) ∧
  (∀ (s : State) (k : LinkId) (z : ZoneId),
    s.releaseZone k z = ((s.detachZone z (some k)).setLease (.zone z) .free).grantHead (.zone z))

/-! ## What commands leave alone -/

/-- An event of port p changes no other port, no table, no profile, no other lease but port p's, and of the links only
notices, the touch and data queues and touch lost.
An event of a link's receiver, of its dispatcher's taking and of its transmitter changes only that link, save the
completion of a frame: bytes received, frames taken, notices moved, idle characters ended. -/
def Obligations.EventsLeaveTheRestAlone : Prop :=
  (∀ (s t : State) (c : Instr) (p : PortId), Instr.portOf c = some p → exec c s = .next t →
    (∀ q : PortId, q ≠ p → t.port q = s.port q) ∧ (t.port p).profile = (s.port p).profile ∧
    t.windows = s.windows ∧ t.zones = s.zones ∧ t.reportLink = s.reportLink ∧ t.restart = s.restart ∧
    t.inReset = s.inReset ∧ t.pending = s.pending ∧ t.choices = s.choices ∧
    (∀ r : Resource, r ≠ .port p → t.lease r = s.lease r) ∧
    (∀ k : LinkId, t.link k = { s.link k with
      notices := (t.link k).notices, touch := (t.link k).touch, dataQ := (t.link k).dataQ,
      counters := { (s.link k).counters with touchLost := (t.link k).counters.touchLost } })) ∧
  (∀ (s t : State) (k : LinkId) (c : Instr),
    (∃ b : LinkChar, c = .linkByteReceived k b) ∨ c = .frameTaken k ∨ c = .noticeMove k ∨
      (∃ h : Bool, c = .idleCharacterEnd k h) →
    exec c s = .next t → t = s.setLink k (t.link k) ∧ (t.link k).profile = (s.link k).profile ∧
      (t.link k).present = (s.link k).present)

/-- CLAIM, RELEASE, DATA and STATUS of link k change no table, no profile, no present state, no report link and no
restart, no link's ingress, receiver or transmitter, and no other link's control queue or frame in hand.
The window table is changed by LOAD_WINDOW and by resets only (R59). -/
def Obligations.RequestsLeaveTheTablesAlone : Prop :=
  (∀ (s t : State) (k : LinkId) (c : Instr), c = .claim k ∨ c = .release k ∨ c = .data k ∨ c = .status k →
    exec c s = .next t →
    t.windows = s.windows ∧ t.zones = s.zones ∧ t.reportLink = s.reportLink ∧ t.restart = s.restart ∧
    t.inReset = s.inReset ∧ t.pending = s.pending ∧ t.choices = s.choices ∧
    (∀ p : PortId, (t.port p).profile = (s.port p).profile ∧ (t.port p).ready = (s.port p).ready ∧
      (t.port p).fault = (s.port p).fault) ∧
    (∀ j : LinkId, (t.link j).profile = (s.link j).profile ∧ (t.link j).present = (s.link j).present ∧
      (t.link j).ingress = (s.link j).ingress ∧ (t.link j).rx = (s.link j).rx ∧ (t.link j).tx = (s.link j).tx ∧
      (j ≠ k → (t.link j).control = (s.link j).control ∧ (t.link j).hand = (s.link j).hand))) ∧
  (∀ (s t : State) (c : Instr), Instr.mayChangeWindows c = false → exec c s = .next t → t.windows = s.windows)

/-! ## Invariants -/

/-- The invariants below hold of the state after reset. -/
def Obligations.InvariantsHoldAfterReset : Prop :=
  QueueInv State.reset ∧ ManagerInv State.reset ∧ NoticeInv State.reset ∧
    JobInv State.reset ∧ DownInv State.reset ∧ IngressInv State.reset ∧ WaitInv State.reset ∧
    BufferInv State.reset ∧ ContactInv State.reset

/-- Every step keeps the queues and the wait pool within their places (R24, R25, R74). -/
def Obligations.QueuesKeepWithinTheirPlaces : Prop := Kept QueueInv

/-- Every step keeps the wait pool in the order of its entries, and no entry waits for a grantable resource, while ports,
leases and credit agree (R75, R77); their agreement, which every step keeps as well, rules out states that no run
reaches. -/
def Obligations.WaitPoolStaysInOrder : Prop := Kept (fun s => JobInv s ∧ WaitInv s)

/-- Every step keeps handed inbound buffers and data queue entries in agreement (R28, R124, R136). -/
def Obligations.BuffersAndDataQueuesAgree : Prop := Kept BufferInv

/-- Every step keeps each CAPTURED contact at a HELD zone of its panel (R152). -/
def Obligations.CapturedContactsNameHeldZones : Prop := Kept ContactInv

/-- Every step keeps a link profile that is enabled and grants management right (R170). -/
def Obligations.PartStaysManageable : Prop := Kept ManagerInv

/-- Every step keeps the pending sets in the order of moving, one notice of a kind about a resource (R52, R54). -/
def Obligations.PendingSetsStayOrdered : Prop := Kept NoticeInv

/-- Every step keeps SELECT, ports, leases and credit in agreement (R72, R105, R125, R144). -/
def Obligations.JobsLeasesAndCreditAgree : Prop := Kept JobInv

/-- Every step keeps DOWN links empty, without leases and without waits (R10, R34, R35). -/
def Obligations.DownLinksHoldNothing : Prop := Kept DownInv

/-- Every step keeps ingress within 2048 bytes (R14, R19). -/
def Obligations.IngressNeverOverflows : Prop := Kept IngressInv

end Statements
end

