-- ==== Sys2Proof/Laws/State.lean ====
section
/-! SUPPORT. One lemma per field per update of State, and what reading gives after a write, so that no later proof
unfolds a record update. -/

namespace Sys2Proof.Machine

/-! ## Fields that an update leaves alone -/

@[simp] theorem State.inReset_setLink (s : State) (k : LinkId) (l : Link) : (s.setLink k l).inReset = s.inReset := rfl
@[simp] theorem State.ports_setLink (s : State) (k : LinkId) (l : Link) : (s.setLink k l).ports = s.ports := rfl
@[simp] theorem State.windows_setLink (s : State) (k : LinkId) (l : Link) : (s.setLink k l).windows = s.windows := rfl
@[simp] theorem State.zones_setLink (s : State) (k : LinkId) (l : Link) : (s.setLink k l).zones = s.zones := rfl
@[simp] theorem State.portLeases_setLink (s : State) (k : LinkId) (l : Link) : (s.setLink k l).portLeases = s.portLeases := rfl
@[simp] theorem State.zoneLeases_setLink (s : State) (k : LinkId) (l : Link) : (s.setLink k l).zoneLeases = s.zoneLeases := rfl
@[simp] theorem State.waits_setLink (s : State) (k : LinkId) (l : Link) : (s.setLink k l).waits = s.waits := rfl
@[simp] theorem State.reportLink_setLink (s : State) (k : LinkId) (l : Link) : (s.setLink k l).reportLink = s.reportLink := rfl
@[simp] theorem State.restart_setLink (s : State) (k : LinkId) (l : Link) : (s.setLink k l).restart = s.restart := rfl
@[simp] theorem State.choices_setLink (s : State) (k : LinkId) (l : Link) : (s.setLink k l).choices = s.choices := rfl
@[simp] theorem State.pending_setLink (s : State) (k : LinkId) (l : Link) : (s.setLink k l).pending = s.pending := rfl

@[simp] theorem State.inReset_setPort (s : State) (p : PortId) (x : Port) : (s.setPort p x).inReset = s.inReset := rfl
@[simp] theorem State.links_setPort (s : State) (p : PortId) (x : Port) : (s.setPort p x).links = s.links := rfl
@[simp] theorem State.windows_setPort (s : State) (p : PortId) (x : Port) : (s.setPort p x).windows = s.windows := rfl
@[simp] theorem State.zones_setPort (s : State) (p : PortId) (x : Port) : (s.setPort p x).zones = s.zones := rfl
@[simp] theorem State.portLeases_setPort (s : State) (p : PortId) (x : Port) : (s.setPort p x).portLeases = s.portLeases := rfl
@[simp] theorem State.zoneLeases_setPort (s : State) (p : PortId) (x : Port) : (s.setPort p x).zoneLeases = s.zoneLeases := rfl
@[simp] theorem State.waits_setPort (s : State) (p : PortId) (x : Port) : (s.setPort p x).waits = s.waits := rfl
@[simp] theorem State.reportLink_setPort (s : State) (p : PortId) (x : Port) : (s.setPort p x).reportLink = s.reportLink := rfl
@[simp] theorem State.restart_setPort (s : State) (p : PortId) (x : Port) : (s.setPort p x).restart = s.restart := rfl
@[simp] theorem State.choices_setPort (s : State) (p : PortId) (x : Port) : (s.setPort p x).choices = s.choices := rfl
@[simp] theorem State.pending_setPort (s : State) (p : PortId) (x : Port) : (s.setPort p x).pending = s.pending := rfl

@[simp] theorem State.inReset_setZone (s : State) (z : ZoneId) (x : Zone) : (s.setZone z x).inReset = s.inReset := rfl
@[simp] theorem State.links_setZone (s : State) (z : ZoneId) (x : Zone) : (s.setZone z x).links = s.links := rfl
@[simp] theorem State.ports_setZone (s : State) (z : ZoneId) (x : Zone) : (s.setZone z x).ports = s.ports := rfl
@[simp] theorem State.windows_setZone (s : State) (z : ZoneId) (x : Zone) : (s.setZone z x).windows = s.windows := rfl
@[simp] theorem State.portLeases_setZone (s : State) (z : ZoneId) (x : Zone) : (s.setZone z x).portLeases = s.portLeases := rfl
@[simp] theorem State.zoneLeases_setZone (s : State) (z : ZoneId) (x : Zone) : (s.setZone z x).zoneLeases = s.zoneLeases := rfl
@[simp] theorem State.waits_setZone (s : State) (z : ZoneId) (x : Zone) : (s.setZone z x).waits = s.waits := rfl
@[simp] theorem State.reportLink_setZone (s : State) (z : ZoneId) (x : Zone) : (s.setZone z x).reportLink = s.reportLink := rfl
@[simp] theorem State.restart_setZone (s : State) (z : ZoneId) (x : Zone) : (s.setZone z x).restart = s.restart := rfl
@[simp] theorem State.choices_setZone (s : State) (z : ZoneId) (x : Zone) : (s.setZone z x).choices = s.choices := rfl
@[simp] theorem State.pending_setZone (s : State) (z : ZoneId) (x : Zone) : (s.setZone z x).pending = s.pending := rfl

@[simp] theorem State.inReset_setWaits (s : State) (ws : List Wait) : (s.setWaits ws).inReset = s.inReset := rfl
@[simp] theorem State.links_setWaits (s : State) (ws : List Wait) : (s.setWaits ws).links = s.links := rfl
@[simp] theorem State.ports_setWaits (s : State) (ws : List Wait) : (s.setWaits ws).ports = s.ports := rfl
@[simp] theorem State.windows_setWaits (s : State) (ws : List Wait) : (s.setWaits ws).windows = s.windows := rfl
@[simp] theorem State.zones_setWaits (s : State) (ws : List Wait) : (s.setWaits ws).zones = s.zones := rfl
@[simp] theorem State.portLeases_setWaits (s : State) (ws : List Wait) : (s.setWaits ws).portLeases = s.portLeases := rfl
@[simp] theorem State.zoneLeases_setWaits (s : State) (ws : List Wait) : (s.setWaits ws).zoneLeases = s.zoneLeases := rfl
@[simp] theorem State.reportLink_setWaits (s : State) (ws : List Wait) : (s.setWaits ws).reportLink = s.reportLink := rfl
@[simp] theorem State.restart_setWaits (s : State) (ws : List Wait) : (s.setWaits ws).restart = s.restart := rfl
@[simp] theorem State.choices_setWaits (s : State) (ws : List Wait) : (s.setWaits ws).choices = s.choices := rfl
@[simp] theorem State.pending_setWaits (s : State) (ws : List Wait) : (s.setWaits ws).pending = s.pending := rfl

@[simp] theorem State.inReset_setWindow (s : State) (i : WindowId) (w : Window) : (s.setWindow i w).inReset = s.inReset := rfl
@[simp] theorem State.links_setWindow (s : State) (i : WindowId) (w : Window) : (s.setWindow i w).links = s.links := rfl
@[simp] theorem State.ports_setWindow (s : State) (i : WindowId) (w : Window) : (s.setWindow i w).ports = s.ports := rfl
@[simp] theorem State.zones_setWindow (s : State) (i : WindowId) (w : Window) : (s.setWindow i w).zones = s.zones := rfl
@[simp] theorem State.portLeases_setWindow (s : State) (i : WindowId) (w : Window) : (s.setWindow i w).portLeases = s.portLeases := rfl
@[simp] theorem State.zoneLeases_setWindow (s : State) (i : WindowId) (w : Window) : (s.setWindow i w).zoneLeases = s.zoneLeases := rfl
@[simp] theorem State.waits_setWindow (s : State) (i : WindowId) (w : Window) : (s.setWindow i w).waits = s.waits := rfl
@[simp] theorem State.reportLink_setWindow (s : State) (i : WindowId) (w : Window) : (s.setWindow i w).reportLink = s.reportLink := rfl
@[simp] theorem State.restart_setWindow (s : State) (i : WindowId) (w : Window) : (s.setWindow i w).restart = s.restart := rfl
@[simp] theorem State.choices_setWindow (s : State) (i : WindowId) (w : Window) : (s.setWindow i w).choices = s.choices := rfl
@[simp] theorem State.pending_setWindow (s : State) (i : WindowId) (w : Window) : (s.setWindow i w).pending = s.pending := rfl

@[simp] theorem State.inReset_setLease (s : State) (r : Resource) (l : Lease) : (s.setLease r l).inReset = s.inReset := by
  cases r <;> rfl
@[simp] theorem State.links_setLease (s : State) (r : Resource) (l : Lease) : (s.setLease r l).links = s.links := by
  cases r <;> rfl
@[simp] theorem State.ports_setLease (s : State) (r : Resource) (l : Lease) : (s.setLease r l).ports = s.ports := by
  cases r <;> rfl
@[simp] theorem State.windows_setLease (s : State) (r : Resource) (l : Lease) : (s.setLease r l).windows = s.windows := by
  cases r <;> rfl
@[simp] theorem State.zones_setLease (s : State) (r : Resource) (l : Lease) : (s.setLease r l).zones = s.zones := by
  cases r <;> rfl
@[simp] theorem State.waits_setLease (s : State) (r : Resource) (l : Lease) : (s.setLease r l).waits = s.waits := by
  cases r <;> rfl
@[simp] theorem State.reportLink_setLease (s : State) (r : Resource) (l : Lease) : (s.setLease r l).reportLink = s.reportLink := by
  cases r <;> rfl
@[simp] theorem State.restart_setLease (s : State) (r : Resource) (l : Lease) : (s.setLease r l).restart = s.restart := by
  cases r <;> rfl
@[simp] theorem State.choices_setLease (s : State) (r : Resource) (l : Lease) : (s.setLease r l).choices = s.choices := by
  cases r <;> rfl
@[simp] theorem State.pending_setLease (s : State) (r : Resource) (l : Lease) : (s.setLease r l).pending = s.pending := by
  cases r <;> rfl

@[simp] theorem State.waits_setWaits_self (s : State) (ws : List Wait) : (s.setWaits ws).waits = ws := rfl

/-! ## Reading after a write -/

@[simp] theorem State.link_setLink_self (s : State) (k : LinkId) (x : Link) : (s.setLink k x).link k = x := by
  simp [State.link, State.setLink]

theorem State.link_setLink_ne (s : State) {i j : LinkId} (x : Link) (h : i ≠ j) :
    (s.setLink j x).link i = s.link i := by
  simp only [State.link, State.setLink]
  exact Vector.getElem_set_ne _ _ (fun e => h (Fin.ext e.symm))

theorem State.link_setLink (s : State) (i j : LinkId) (x : Link) :
    (s.setLink j x).link i = if i = j then x else s.link i := by
  by_cases h : i = j
  · subst h; simp
  · rw [if_neg h, State.link_setLink_ne s x h]

@[simp] theorem State.setLink_link (s : State) (i : LinkId) : s.setLink i (s.link i) = s := by
  simp [State.link, State.setLink]

@[simp] theorem State.setLink_setLink (s : State) (i : LinkId) (x y : Link) :
    (s.setLink i x).setLink i y = s.setLink i y := by
  simp [State.setLink]

@[simp] theorem State.port_setPort_self (s : State) (p : PortId) (x : Port) : (s.setPort p x).port p = x := by
  simp [State.port, State.setPort]

theorem State.port_setPort_ne (s : State) {i j : PortId} (x : Port) (h : i ≠ j) :
    (s.setPort j x).port i = s.port i := by
  simp only [State.port, State.setPort]
  exact Vector.getElem_set_ne _ _ (fun e => h (Fin.ext e.symm))

theorem State.port_setPort (s : State) (i j : PortId) (x : Port) :
    (s.setPort j x).port i = if i = j then x else s.port i := by
  by_cases h : i = j
  · subst h; simp
  · rw [if_neg h, State.port_setPort_ne s x h]

@[simp] theorem State.setPort_port (s : State) (i : PortId) : s.setPort i (s.port i) = s := by
  simp [State.port, State.setPort]

@[simp] theorem State.setPort_setPort (s : State) (i : PortId) (x y : Port) :
    (s.setPort i x).setPort i y = s.setPort i y := by
  simp [State.setPort]

@[simp] theorem State.zone_setZone_self (s : State) (z : ZoneId) (x : Zone) : (s.setZone z x).zone z = x := by
  simp [State.zone, State.setZone]

theorem State.zone_setZone_ne (s : State) {i j : ZoneId} (x : Zone) (h : i ≠ j) :
    (s.setZone j x).zone i = s.zone i := by
  simp only [State.zone, State.setZone]
  exact Vector.getElem_set_ne _ _ (fun e => h (Fin.ext e.symm))

theorem State.zone_setZone (s : State) (i j : ZoneId) (x : Zone) :
    (s.setZone j x).zone i = if i = j then x else s.zone i := by
  by_cases h : i = j
  · subst h; simp
  · rw [if_neg h, State.zone_setZone_ne s x h]

@[simp] theorem State.setZone_zone (s : State) (i : ZoneId) : s.setZone i (s.zone i) = s := by
  simp [State.zone, State.setZone]

@[simp] theorem State.setZone_setZone (s : State) (i : ZoneId) (x y : Zone) :
    (s.setZone i x).setZone i y = s.setZone i y := by
  simp [State.setZone]

@[simp] theorem State.port_of_setLink (s : State) (k : LinkId) (l : Link) (q : PortId) : (s.setLink k l).port q = s.port q := rfl
@[simp] theorem State.zone_of_setLink (s : State) (k : LinkId) (l : Link) (y : ZoneId) : (s.setLink k l).zone y = s.zone y := rfl
@[simp] theorem State.lease_setLink (s : State) (k : LinkId) (l : Link) (r : Resource) : (s.setLink k l).lease r = s.lease r := by
  cases r <;> rfl

@[simp] theorem State.link_of_setPort (s : State) (p : PortId) (x : Port) (j : LinkId) : (s.setPort p x).link j = s.link j := rfl
@[simp] theorem State.zone_of_setPort (s : State) (p : PortId) (x : Port) (y : ZoneId) : (s.setPort p x).zone y = s.zone y := rfl
@[simp] theorem State.lease_setPort (s : State) (p : PortId) (x : Port) (r : Resource) : (s.setPort p x).lease r = s.lease r := by
  cases r <;> rfl

@[simp] theorem State.link_of_setZone (s : State) (z : ZoneId) (x : Zone) (j : LinkId) : (s.setZone z x).link j = s.link j := rfl
@[simp] theorem State.port_of_setZone (s : State) (z : ZoneId) (x : Zone) (q : PortId) : (s.setZone z x).port q = s.port q := rfl
@[simp] theorem State.lease_setZone (s : State) (z : ZoneId) (x : Zone) (r : Resource) : (s.setZone z x).lease r = s.lease r := by
  cases r <;> rfl

@[simp] theorem State.link_of_setWaits (s : State) (ws : List Wait) (j : LinkId) : (s.setWaits ws).link j = s.link j := rfl
@[simp] theorem State.port_of_setWaits (s : State) (ws : List Wait) (q : PortId) : (s.setWaits ws).port q = s.port q := rfl
@[simp] theorem State.zone_of_setWaits (s : State) (ws : List Wait) (y : ZoneId) : (s.setWaits ws).zone y = s.zone y := rfl
@[simp] theorem State.lease_setWaits (s : State) (ws : List Wait) (r : Resource) : (s.setWaits ws).lease r = s.lease r := by
  cases r <;> rfl

@[simp] theorem State.link_of_setWindow (s : State) (i : WindowId) (w : Window) (j : LinkId) : (s.setWindow i w).link j = s.link j := rfl
@[simp] theorem State.port_of_setWindow (s : State) (i : WindowId) (w : Window) (q : PortId) : (s.setWindow i w).port q = s.port q := rfl
@[simp] theorem State.zone_of_setWindow (s : State) (i : WindowId) (w : Window) (y : ZoneId) : (s.setWindow i w).zone y = s.zone y := rfl
@[simp] theorem State.lease_setWindow (s : State) (i : WindowId) (w : Window) (r : Resource) : (s.setWindow i w).lease r = s.lease r := by
  cases r <;> rfl

@[simp] theorem State.link_setLease (s : State) (r : Resource) (l : Lease) (j : LinkId) :
    (s.setLease r l).link j = s.link j := by
  cases r <;> rfl
@[simp] theorem State.port_setLease (s : State) (r : Resource) (l : Lease) (q : PortId) :
    (s.setLease r l).port q = s.port q := by
  cases r <;> rfl
@[simp] theorem State.zone_setLease (s : State) (r : Resource) (l : Lease) (y : ZoneId) :
    (s.setLease r l).zone y = s.zone y := by
  cases r <;> rfl

@[simp] theorem State.lease_setLease_self (s : State) (r : Resource) (l : Lease) : (s.setLease r l).lease r = l := by
  cases r <;> simp [State.lease, State.setLease]

theorem State.lease_setLease_ne (s : State) {r q : Resource} (l : Lease) (h : r ≠ q) :
    (s.setLease q l).lease r = s.lease r := by
  cases r <;> cases q <;> simp only [State.lease, State.setLease]
  · exact Vector.getElem_set_ne _ _ (fun e => h (by rw [Fin.ext e.symm]))
  · exact Vector.getElem_set_ne _ _ (fun e => h (by rw [Fin.ext e.symm]))

theorem State.lease_setLease (s : State) (r q : Resource) (l : Lease) :
    (s.setLease q l).lease r = if r = q then l else s.lease r := by
  by_cases h : r = q
  · subst h; simp
  · rw [if_neg h, State.lease_setLease_ne s l h]

/-! ## The same for changes by a function -/

theorem State.link_mapLink (s : State) (i j : LinkId) (f : Link → Link) :
    (s.mapLink j f).link i = if i = j then f (s.link j) else s.link i := State.link_setLink s i j _

@[simp] theorem State.link_mapLink_self (s : State) (k : LinkId) (f : Link → Link) :
    (s.mapLink k f).link k = f (s.link k) := State.link_setLink_self s k _

theorem State.port_mapPort (s : State) (i j : PortId) (f : Port → Port) :
    (s.mapPort j f).port i = if i = j then f (s.port j) else s.port i := State.port_setPort s i j _

@[simp] theorem State.port_mapPort_self (s : State) (p : PortId) (f : Port → Port) :
    (s.mapPort p f).port p = f (s.port p) := State.port_setPort_self s p _

@[simp] theorem State.inReset_mapLink (s : State) (k : LinkId) (f : Link → Link) : (s.mapLink k f).inReset = s.inReset := rfl
@[simp] theorem State.ports_mapLink (s : State) (k : LinkId) (f : Link → Link) : (s.mapLink k f).ports = s.ports := rfl
@[simp] theorem State.windows_mapLink (s : State) (k : LinkId) (f : Link → Link) : (s.mapLink k f).windows = s.windows := rfl
@[simp] theorem State.zones_mapLink (s : State) (k : LinkId) (f : Link → Link) : (s.mapLink k f).zones = s.zones := rfl
@[simp] theorem State.portLeases_mapLink (s : State) (k : LinkId) (f : Link → Link) : (s.mapLink k f).portLeases = s.portLeases := rfl
@[simp] theorem State.zoneLeases_mapLink (s : State) (k : LinkId) (f : Link → Link) : (s.mapLink k f).zoneLeases = s.zoneLeases := rfl
@[simp] theorem State.waits_mapLink (s : State) (k : LinkId) (f : Link → Link) : (s.mapLink k f).waits = s.waits := rfl
@[simp] theorem State.reportLink_mapLink (s : State) (k : LinkId) (f : Link → Link) : (s.mapLink k f).reportLink = s.reportLink := rfl
@[simp] theorem State.restart_mapLink (s : State) (k : LinkId) (f : Link → Link) : (s.mapLink k f).restart = s.restart := rfl
@[simp] theorem State.choices_mapLink (s : State) (k : LinkId) (f : Link → Link) : (s.mapLink k f).choices = s.choices := rfl
@[simp] theorem State.pending_mapLink (s : State) (k : LinkId) (f : Link → Link) : (s.mapLink k f).pending = s.pending := rfl
@[simp] theorem State.lease_mapLink (s : State) (k : LinkId) (f : Link → Link) (r : Resource) : (s.mapLink k f).lease r = s.lease r := by
  cases r <;> rfl
@[simp] theorem State.port_of_mapLink (s : State) (k : LinkId) (f : Link → Link) (q : PortId) : (s.mapLink k f).port q = s.port q := rfl
@[simp] theorem State.zone_of_mapLink (s : State) (k : LinkId) (f : Link → Link) (y : ZoneId) : (s.mapLink k f).zone y = s.zone y := rfl
@[simp] theorem State.inReset_mapPort (s : State) (p : PortId) (f : Port → Port) : (s.mapPort p f).inReset = s.inReset := rfl
@[simp] theorem State.links_mapPort (s : State) (p : PortId) (f : Port → Port) : (s.mapPort p f).links = s.links := rfl
@[simp] theorem State.windows_mapPort (s : State) (p : PortId) (f : Port → Port) : (s.mapPort p f).windows = s.windows := rfl
@[simp] theorem State.zones_mapPort (s : State) (p : PortId) (f : Port → Port) : (s.mapPort p f).zones = s.zones := rfl
@[simp] theorem State.portLeases_mapPort (s : State) (p : PortId) (f : Port → Port) : (s.mapPort p f).portLeases = s.portLeases := rfl
@[simp] theorem State.zoneLeases_mapPort (s : State) (p : PortId) (f : Port → Port) : (s.mapPort p f).zoneLeases = s.zoneLeases := rfl
@[simp] theorem State.waits_mapPort (s : State) (p : PortId) (f : Port → Port) : (s.mapPort p f).waits = s.waits := rfl
@[simp] theorem State.reportLink_mapPort (s : State) (p : PortId) (f : Port → Port) : (s.mapPort p f).reportLink = s.reportLink := rfl
@[simp] theorem State.restart_mapPort (s : State) (p : PortId) (f : Port → Port) : (s.mapPort p f).restart = s.restart := rfl
@[simp] theorem State.choices_mapPort (s : State) (p : PortId) (f : Port → Port) : (s.mapPort p f).choices = s.choices := rfl
@[simp] theorem State.pending_mapPort (s : State) (p : PortId) (f : Port → Port) : (s.mapPort p f).pending = s.pending := rfl
@[simp] theorem State.lease_mapPort (s : State) (p : PortId) (f : Port → Port) (r : Resource) : (s.mapPort p f).lease r = s.lease r := by
  cases r <;> rfl
@[simp] theorem State.link_of_mapPort (s : State) (p : PortId) (f : Port → Port) (j : LinkId) : (s.mapPort p f).link j = s.link j := rfl
@[simp] theorem State.zone_of_mapPort (s : State) (p : PortId) (f : Port → Port) (y : ZoneId) : (s.mapPort p f).zone y = s.zone y := rfl

end Sys2Proof.Machine
end

