-- ==== Sys2Proof/Laws/Ops.lean ====
section
/-! SUPPORT. What the shared operations can do, said once each: the effect on links, ports and leases of the small ones,
and of all of them what they leave alone. -/

namespace Sys2Proof.Machine

/-! ## Commands of a running part -/

theorem State.live_running {s : State} (t : State) (h : s.inReset = false) : s.live t = .next t := by
  simp [State.live, h]

theorem State.live_held {s : State} (t : State) (h : s.inReset = true) : s.live t = .next s := by
  simp [State.live, h]

/-! ## Links: what only delivers -/

/-- m is l after deliveries: notices, touch reports and inbound data may have entered or left, touch lost may have
risen, and nothing else is changed. -/
def Link.Delivered (l m : Link) : Prop :=
  m = { l with
    notices := m.notices, touch := m.touch, dataQ := m.dataQ,
    counters := { l.counters with touchLost := m.counters.touchLost } }

theorem Link.Delivered.refl (l : Link) : l.Delivered l := rfl

theorem Link.Delivered.trans {a b c : Link} (h : a.Delivered b) (g : b.Delivered c) : a.Delivered c := by
  unfold Link.Delivered at *
  rw [g, h]

theorem Link.Delivered.up {l m : Link} (h : l.Delivered m) : m.up = l.up := by
  unfold Link.Delivered at h
  rw [h]
  rfl

theorem Link.delivered_notices (l : Link) (ns : List Notice) : l.Delivered { l with notices := ns } := rfl

theorem Link.delivered_dataQ (l : Link) (es : List DataEntry) : l.Delivered { l with dataQ := es } := rfl

theorem Link.delivered_takeReport (l : Link) (r : Report) : l.Delivered (l.takeReport r) := by
  unfold Link.takeReport
  split
  · rfl
  · split <;> rfl

/-! ## States: what an engine leaves alone -/

/-- t is s after work of the lease block and of the port and panel engines: tables, report link, restart and the model's
own items are as they were, every port keeps profile, lines and line states, every link has only had deliveries. -/
structure State.Worked (s t : State) : Prop where
  inReset : t.inReset = s.inReset
  windows : t.windows = s.windows
  zones : t.zones = s.zones
  reportLink : t.reportLink = s.reportLink
  restart : t.restart = s.restart
  choices : t.choices = s.choices
  pending : t.pending = s.pending
  links : ∀ k : LinkId, (s.link k).Delivered (t.link k)
  profile : ∀ p : PortId, (t.port p).profile = (s.port p).profile
  ready : ∀ p : PortId, (t.port p).ready = (s.port p).ready
  fault : ∀ p : PortId, (t.port p).fault = (s.port p).fault

theorem State.Worked.refl (s : State) : s.Worked s :=
  ⟨rfl, rfl, rfl, rfl, rfl, rfl, rfl, fun _ => rfl, fun _ => rfl, fun _ => rfl, fun _ => rfl⟩

theorem State.Worked.trans {a b c : State} (h : a.Worked b) (g : b.Worked c) : a.Worked c :=
  ⟨g.inReset.trans h.inReset, g.windows.trans h.windows, g.zones.trans h.zones, g.reportLink.trans h.reportLink,
    g.restart.trans h.restart, g.choices.trans h.choices, g.pending.trans h.pending,
    fun k => (h.links k).trans (g.links k), fun p => (g.profile p).trans (h.profile p),
    fun p => (g.ready p).trans (h.ready p), fun p => (g.fault p).trans (h.fault p)⟩

theorem State.Worked.up {s t : State} (h : s.Worked t) (k : LinkId) : (t.link k).up = (s.link k).up := (h.links k).up

theorem State.Worked.isReady {s t : State} (h : s.Worked t) (p : PortId) :
    (t.port p).isReady = (s.port p).isReady := by
  simp only [Port.isReady, h.ready, h.fault]

theorem State.worked_mapLink (s : State) (k : LinkId) (f : Link → Link) (h : ∀ l : Link, l.Delivered (f l)) :
    s.Worked (s.mapLink k f) :=
  { State.Worked.refl s with
    links := fun j => by
      rw [State.link_mapLink]
      split
      · next e => subst e; exact h _
      · exact .refl _ }

/-- A port that keeps its profile and its line states. -/
def Port.KeepsLines (x y : Port) : Prop := y.profile = x.profile ∧ y.ready = x.ready ∧ y.fault = x.fault

theorem State.worked_setPort (s : State) (p : PortId) (x : Port) (h : (s.port p).KeepsLines x) :
    s.Worked (s.setPort p x) := by
  obtain ⟨h1, h2, h3⟩ := h
  constructor <;> first | rfl | (intro q; first | rfl | (rw [State.port_setPort]; split <;> simp_all))

theorem State.worked_mapPort (s : State) (p : PortId) (f : Port → Port) (h : (s.port p).KeepsLines (f (s.port p))) :
    s.Worked (s.mapPort p f) := s.worked_setPort p _ h

theorem State.worked_setLease (s : State) (r : Resource) (l : Lease) : s.Worked (s.setLease r l) := by
  cases r <;>
    exact ⟨rfl, rfl, rfl, rfl, rfl, rfl, rfl, fun _ => rfl, fun _ => rfl, fun _ => rfl, fun _ => rfl⟩

theorem State.worked_setWaits (s : State) (ws : List Wait) : s.Worked (s.setWaits ws) :=
  ⟨rfl, rfl, rfl, rfl, rfl, rfl, rfl, fun _ => rfl, fun _ => rfl, fun _ => rfl, fun _ => rfl⟩

/-! ## Ports: judgements keep the lines -/

theorem Port.KeepsLines.refl (x : Port) : x.KeepsLines x := ⟨rfl, rfl, rfl⟩

theorem Port.KeepsLines.trans {a b c : Port} (h : a.KeepsLines b) (g : b.KeepsLines c) : a.KeepsLines c :=
  ⟨g.1.trans h.1, g.2.1.trans h.2.1, g.2.2.trans h.2.2⟩

theorem Port.keepsLines_setInb (x : Port) (b : BufId) (i : InBuf) : x.KeepsLines (x.setInb b i) := by
  cases b <;> exact .refl _

theorem Port.keepsLines_setOutb (x : Port) (b : BufId) (o : Option OutBuf) : x.KeepsLines (x.setOutb b o) := by
  cases b <;> exact .refl _

theorem Port.keepsLines_setPause (x : Port) (want : Bool) : x.KeepsLines (x.setPause want) := by
  unfold Port.setPause
  split
  · exact .refl _
  · split <;> exact .refl _

theorem Port.keepsLines_judge (x : Port) : x.KeepsLines x.judge :=
  x.keepsLines_setPause x.wantsPause

theorem Port.keepsLines_startFilling (x : Port) : x.KeepsLines x.startFilling := by
  unfold Port.startFilling
  split
  · exact .refl _
  · split
    · exact .refl _
    · split <;> exact .refl _

theorem Port.keepsLines_closeJob (x : Port) : x.KeepsLines x.closeJob :=
  Port.keepsLines_setPause _ _

theorem Port.keepsLines_returnBuffer (x : Port) (b : BufId) : x.KeepsLines (x.returnBuffer b) := by
  unfold Port.returnBuffer
  refine .trans ?_ (Port.keepsLines_judge _)
  split
  · exact .trans (x.keepsLines_setInb b _) (Port.keepsLines_setInb _ b _)
  · exact x.keepsLines_setInb b _

/-! ## Notices -/

theorem State.enterNotice_up {s : State} {k : LinkId} (n : Notice) (h : (s.link k).up = true) :
    s.enterNotice k n = s.mapLink k (fun l => { l with notices := mergeNotice l.notices n }) := by
  simp [State.enterNotice, h]

theorem State.enterNotice_down {s : State} {k : LinkId} (n : Notice) (h : (s.link k).up = false) :
    s.enterNotice k n = s := by
  simp [State.enterNotice, h]

@[simp] theorem State.port_enterNotice (s : State) (k : LinkId) (n : Notice) (q : PortId) :
    (s.enterNotice k n).port q = s.port q := by
  unfold State.enterNotice; split <;> rfl

@[simp] theorem State.zone_enterNotice (s : State) (k : LinkId) (n : Notice) (z : ZoneId) :
    (s.enterNotice k n).zone z = s.zone z := by
  unfold State.enterNotice; split <;> rfl

@[simp] theorem State.lease_enterNotice (s : State) (k : LinkId) (n : Notice) (r : Resource) :
    (s.enterNotice k n).lease r = s.lease r := by
  unfold State.enterNotice; split <;> simp

@[simp] theorem State.waits_enterNotice (s : State) (k : LinkId) (n : Notice) :
    (s.enterNotice k n).waits = s.waits := by
  unfold State.enterNotice; split <;> rfl

@[simp] theorem State.reportLink_enterNotice (s : State) (k : LinkId) (n : Notice) :
    (s.enterNotice k n).reportLink = s.reportLink := by
  unfold State.enterNotice; split <;> rfl

theorem State.link_enterNotice (s : State) (k j : LinkId) (n : Notice) :
    (s.enterNotice k n).link j =
      if j = k ∧ (s.link k).up = true then { s.link k with notices := mergeNotice (s.link k).notices n }
      else s.link j := by
  unfold State.enterNotice
  split
  · rw [State.link_mapLink]; simp_all
  · simp_all

theorem State.worked_enterNotice (s : State) (k : LinkId) (n : Notice) : s.Worked (s.enterNotice k n) := by
  unfold State.enterNotice
  split
  · exact s.worked_mapLink k _ (fun l => l.delivered_notices _)
  · exact .refl _

/-! ## Touch reports -/

@[simp] theorem State.port_queueReport (s : State) (k : LinkId) (r : Report) (q : PortId) :
    (s.queueReport k r).port q = s.port q := rfl

@[simp] theorem State.zone_queueReport (s : State) (k : LinkId) (r : Report) (z : ZoneId) :
    (s.queueReport k r).zone z = s.zone z := rfl

@[simp] theorem State.lease_queueReport (s : State) (k : LinkId) (r : Report) (x : Resource) :
    (s.queueReport k r).lease x = s.lease x := State.lease_mapLink _ _ _ _

@[simp] theorem State.waits_queueReport (s : State) (k : LinkId) (r : Report) :
    (s.queueReport k r).waits = s.waits := rfl

theorem State.worked_queueReport (s : State) (k : LinkId) (r : Report) : s.Worked (s.queueReport k r) :=
  s.worked_mapLink k _ (fun l => l.delivered_takeReport r)

/-! ## Port states -/

theorem State.port_setPortState (s : State) (p q : PortId) (st : PortState) :
    (s.setPortState p st).port q = if q = p then { s.port p with state := st, select := st.isJob } else s.port q := by
  simp only [State.setPortState]
  split
  · rw [State.port_mapPort]
  · rw [State.port_enterNotice, State.port_mapPort]

@[simp] theorem State.port_setPortState_self (s : State) (p : PortId) (st : PortState) :
    (s.setPortState p st).port p = { s.port p with state := st, select := st.isJob } := by
  simp [State.port_setPortState]

@[simp] theorem State.lease_setPortState (s : State) (p : PortId) (st : PortState) (r : Resource) :
    (s.setPortState p st).lease r = s.lease r := by
  simp only [State.setPortState]
  split <;> simp

@[simp] theorem State.waits_setPortState (s : State) (p : PortId) (st : PortState) :
    (s.setPortState p st).waits = s.waits := by
  simp only [State.setPortState]
  split <;> simp

@[simp] theorem State.zone_setPortState (s : State) (p : PortId) (st : PortState) (z : ZoneId) :
    (s.setPortState p st).zone z = s.zone z := by
  simp only [State.setPortState]
  split <;> simp

theorem State.worked_setPortState (s : State) (p : PortId) (st : PortState) : s.Worked (s.setPortState p st) := by
  have h : s.Worked (s.mapPort p (fun x => { x with state := st, select := st.isJob })) :=
    s.worked_mapPort p _ (.refl _)
  simp only [State.setPortState]
  split
  · exact h
  · exact h.trans (State.worked_enterNotice _ _ _)

/-! ## Staging, grants and the end of a job -/

theorem State.worked_handTo (s : State) (p : PortId) (b : BufId) (bytes : List Byte) (k : LinkId) :
    s.Worked (s.handTo p b bytes k) :=
  (s.worked_mapLink k _ (fun l => l.delivered_dataQ _)).trans
    (State.worked_mapPort _ p _ (.trans (Port.keepsLines_setInb _ b _) (.refl _)))

theorem State.worked_handFilling (s : State) (p : PortId) : s.Worked (s.handFilling p) := by
  unfold State.handFilling
  split
  · split
    · exact .refl _
    · exact (s.worked_handTo _ _ _ _).trans
        (State.worked_mapPort _ p _ (.trans (Port.keepsLines_startFilling _) (Port.keepsLines_judge _)))
  · exact .refl _

theorem State.worked_openPort (s : State) (p : PortId) (h : Holding) : s.Worked (s.openPort p h) := by
  unfold State.openPort
  refine ((s.worked_setLease (.port p) (.held h)).trans (State.worked_setPortState _ p .opened)).trans
    (State.worked_mapPort _ p _ ?_)
  refine .trans ?_ (Port.keepsLines_judge _)
  refine .trans ?_ (Port.keepsLines_startFilling _)
  exact ⟨rfl, rfl, rfl⟩

theorem State.worked_grant (s : State) (r : Resource) (h : Holding) : s.Worked (s.grant r h) := by
  cases r with
  | port p => exact s.worked_openPort p h
  | zone z => exact s.worked_setLease (.zone z) (.held h)

theorem State.worked_grantHead (s : State) (r : Resource) : s.Worked (s.grantHead r) := by
  unfold State.grantHead
  split
  · split
    · exact .refl _
    · exact ((State.worked_setWaits s _).trans (State.worked_grant _ _ _)).trans (State.worked_enterNotice _ _ _)
  · exact .refl _

theorem State.worked_enterIdle (s : State) (p : PortId) : s.Worked (s.enterIdle p) :=
  (s.worked_setPortState p .idle).trans (State.worked_grantHead _ _)

theorem State.worked_enterSettling (s : State) (p : PortId) : s.Worked (s.enterSettling p) := by
  simp only [State.enterSettling]
  split
  · exact (s.worked_setPortState p .settling).trans (State.worked_enterIdle _ _)
  · exact (s.worked_setPortState p .settling).trans (State.worked_mapPort _ p _ (.refl _))

theorem State.worked_endJob (s : State) (p : PortId) : s.Worked (s.endJob p) := by
  unfold State.endJob
  refine .trans (.trans (.trans ?_ (State.worked_mapPort _ p _ ?_)) (State.worked_setLease _ _ _))
    (State.worked_enterSettling _ _)
  · split
    · split
      · exact s.worked_mapPort p _ (Port.keepsLines_setInb _ _ _)
      · exact s.worked_handTo _ _ _ _
    · exact s.worked_mapPort p _ (Port.keepsLines_setInb _ _ _)
    · exact .refl _
  · exact .trans (Port.keepsLines_closeJob _) (.refl _)

theorem State.worked_completeDrain (s : State) (p : PortId) : s.Worked (s.completeDrain p) := by
  unfold State.completeDrain
  split
  · exact s.worked_endJob p
  · exact (s.worked_enterNotice _ _).trans (State.worked_endJob _ _)

theorem State.worked_cutInbound (s : State) (p : PortId) (b : BufId) : s.Worked (s.cutInbound p b) := by
  unfold State.cutInbound
  split
  · exact .refl _
  · exact s.worked_mapPort p _ (Port.keepsLines_setInb _ _ _)
  · split
    · exact (s.worked_mapLink _ _ (fun l => l.delivered_dataQ _)).trans
        (State.worked_mapPort _ p _ (Port.keepsLines_setInb _ _ _))
    · exact .refl _

theorem State.worked_cut (s : State) (p : PortId) : s.Worked (s.cut p) :=
  ((s.worked_cutInbound p .b0).trans (State.worked_cutInbound _ p .b1)).trans
    (State.worked_mapPort _ p _ (.trans (Port.keepsLines_closeJob _) (.refl _)))

theorem State.worked_afterCut (s : State) (p : PortId) : s.Worked (s.afterCut p) := by
  unfold State.afterCut
  split
  · exact s.worked_enterSettling p
  · exact s.worked_setPortState p _

theorem State.worked_afterRevoke (s : State) (p : PortId) (why : RevokeReason) : s.Worked (s.afterRevoke p why) := by
  unfold State.afterRevoke
  split
  · exact s.worked_setPortState p _
  · exact s.worked_setPortState p _
  · exact .refl _
  · exact s.worked_afterCut p
  · exact s.worked_afterCut p
  · exact s.worked_afterCut p
  · exact s.worked_afterCut p

theorem State.worked_noticeRevoked (s : State) (r : Resource) (h : Holding) (why : RevokeReason) :
    s.Worked (s.noticeRevoked r h why) := by
  unfold State.noticeRevoked
  split
  · exact s.worked_enterNotice _ _
  · exact .refl _

theorem State.worked_revokePort (s : State) (p : PortId) (why : RevokeReason) : s.Worked (s.revokePort p why) := by
  unfold State.revokePort
  split
  · exact .refl _
  · exact (((s.worked_cut p).trans (State.worked_setLease _ _ _)).trans (State.worked_noticeRevoked _ _ _ _)).trans
      (State.worked_afterRevoke _ _ _)

/-! ## Contacts -/

theorem State.worked_setContact (s : State) (p : PortId) (c : ContactId) (x : Contact) : s.Worked (s.setContact p c x) :=
  s.worked_mapPort p _ (.refl _)

theorem State.worked_syntheticUp (s : State) (p : PortId) (c : ContactId) (z : ZoneId) (k : LinkId) :
    s.Worked (s.syntheticUp p c z k) := s.worked_queueReport _ _

theorem State.worked_detach (s : State) (p : PortId) (z : ZoneId) (tell : Option LinkId) (c : ContactId) :
    s.Worked (s.detach p z tell c) := by
  unfold State.detach
  split
  · refine .trans ?_ (State.worked_setContact _ _ _ _)
    split
    · exact .refl _
    · exact s.worked_syntheticUp _ _ _ _
  · exact .refl _

theorem State.worked_foldl {α : Type} (f : State → α → State) (h : ∀ (t : State) (a : α), t.Worked (f t a)) :
    ∀ (as : List α) (s : State), s.Worked (as.foldl f s)
  | [], s => .refl s
  | a :: as, s => (h s a).trans (State.worked_foldl f h as (f s a))

theorem State.worked_detachZone (s : State) (z : ZoneId) (tell : Option LinkId) : s.Worked (s.detachZone z tell) :=
  State.worked_foldl _ (fun t c => t.worked_detach _ z tell c) _ _

theorem State.worked_freeContact (s : State) (p : PortId) (c : ContactId) : s.Worked (s.freeContact p c) := by
  unfold State.freeContact
  refine .trans ?_ (State.worked_setContact _ _ _ _)
  split
  · split
    · exact .refl _
    · exact s.worked_syntheticUp _ _ _ _
  · exact .refl _
  · exact .refl _

theorem State.worked_panelLeavesIdle (s : State) (p : PortId) : s.Worked (s.panelLeavesIdle p) :=
  .trans (s.worked_mapPort p _ (.refl _)) (State.worked_foldl _ (fun t c => t.worked_freeContact p c) _ _)

/-! ## Revokes, drops and returns -/

theorem State.worked_revokeZone (s : State) (z : ZoneId) (why : RevokeReason) : s.Worked (s.revokeZone z why) := by
  unfold State.revokeZone
  split
  · exact .refl _
  · exact (((s.worked_detachZone z _).trans (State.worked_setLease _ _ _)).trans
      (State.worked_noticeRevoked _ _ _ _)).trans (State.worked_grantHead _ _)

theorem State.worked_revoke (s : State) (r : Resource) (why : RevokeReason) : s.Worked (s.revoke r why) := by
  cases r with
  | port p => exact s.worked_revokePort p why
  | zone z => exact s.worked_revokeZone z why

theorem State.worked_dropWaits (s : State) (r : Resource) : s.Worked (s.dropWaits r) :=
  .trans (s.worked_setWaits _) (State.worked_foldl _ (fun t _ => t.worked_enterNotice _ _) _ _)

theorem State.worked_returnEntries (s : State) (es : List DataEntry) : s.Worked (s.returnEntries es) :=
  State.worked_foldl _ (fun t (e : DataEntry) => t.worked_mapPort e.port _ (Port.keepsLines_returnBuffer _ e.buf)) _ _

theorem State.worked_revokeIfHeldBy (s : State) (k : LinkId) (r : Resource) : s.Worked (s.revokeIfHeldBy k r) := by
  unfold State.revokeIfHeldBy
  split
  · exact s.worked_revoke r _
  · exact .refl _

theorem State.worked_tellHolder (s : State) (p : PortId) (body : NoticeBody) : s.Worked (s.tellHolder p body) := by
  unfold State.tellHolder
  split
  · exact .refl _
  · exact s.worked_enterNotice _ _

end Sys2Proof.Machine
end

