-- ==== Sys2Proof/Laws/Local.lean ====
section
/-! SUPPORT. What the work of one port leaves alone beside the tables: the other ports and the other leases. -/

namespace Sys2Proof.Machine

/-- t is s after work at port p: as State.Worked says, and every other port and every lease but p's are as they were. -/
structure State.WorkedAt (p : PortId) (s t : State) : Prop where
  worked : s.Worked t
  ports : ∀ q : PortId, q ≠ p → t.port q = s.port q
  leases : ∀ r : Resource, r ≠ .port p → t.lease r = s.lease r

theorem State.WorkedAt.refl (p : PortId) (s : State) : s.WorkedAt p s :=
  ⟨.refl s, fun _ _ => rfl, fun _ _ => rfl⟩

theorem State.WorkedAt.trans {p : PortId} {a b c : State} (h : a.WorkedAt p b) (g : b.WorkedAt p c) : a.WorkedAt p c :=
  ⟨h.worked.trans g.worked, fun q e => (g.ports q e).trans (h.ports q e), fun r e => (g.leases r e).trans (h.leases r e)⟩

theorem State.workedAt_mapLink (p : PortId) (s : State) (k : LinkId) (f : Link → Link) (h : ∀ l : Link, l.Delivered (f l)) :
    s.WorkedAt p (s.mapLink k f) :=
  ⟨s.worked_mapLink k f h, fun _ _ => rfl, fun r _ => by cases r <;> rfl⟩

theorem State.workedAt_mapPort (s : State) (p : PortId) (f : Port → Port) (h : (s.port p).KeepsLines (f (s.port p))) :
    s.WorkedAt p (s.mapPort p f) :=
  ⟨s.worked_mapPort p f h, fun q e => by rw [State.port_mapPort, if_neg e], fun r _ => by cases r <;> rfl⟩

theorem State.workedAt_setLease (s : State) (p : PortId) (l : Lease) : s.WorkedAt p (s.setLease (.port p) l) :=
  ⟨s.worked_setLease _ l, fun _ _ => rfl, fun r e => by rw [State.lease_setLease, if_neg e]⟩

theorem State.workedAt_setWaits (s : State) (p : PortId) (ws : List Wait) : s.WorkedAt p (s.setWaits ws) :=
  ⟨s.worked_setWaits ws, fun _ _ => rfl, fun r _ => by cases r <;> rfl⟩

theorem State.workedAt_enterNotice (s : State) (p : PortId) (k : LinkId) (n : Notice) : s.WorkedAt p (s.enterNotice k n) :=
  ⟨s.worked_enterNotice k n, fun q _ => s.port_enterNotice k n q, fun r _ => s.lease_enterNotice k n r⟩

theorem State.workedAt_setPortState (s : State) (p : PortId) (st : PortState) : s.WorkedAt p (s.setPortState p st) :=
  ⟨s.worked_setPortState p st, fun q e => by rw [State.port_setPortState, if_neg e],
    fun r _ => s.lease_setPortState p st r⟩

/-! ## Staging -/

theorem State.workedAt_handTo (s : State) (p : PortId) (b : BufId) (bytes : List Byte) (k : LinkId) :
    s.WorkedAt p (s.handTo p b bytes k) :=
  (State.workedAt_mapLink p s k _ (fun l => l.delivered_dataQ _)).trans
    (State.workedAt_mapPort _ p _ ((Port.keepsLines_setInb _ b _).trans ⟨rfl, rfl, rfl⟩))

theorem State.workedAt_handFilling (s : State) (p : PortId) : s.WorkedAt p (s.handFilling p) := by
  unfold State.handFilling
  split
  · split
    · exact .refl p s
    · exact (s.workedAt_handTo p _ _ _).trans
        (State.workedAt_mapPort _ p _ ((Port.keepsLines_startFilling _).trans (Port.keepsLines_judge _)))
  · exact .refl p s

/-! ## Grants -/

theorem State.workedAt_openPort (s : State) (p : PortId) (h : Holding) : s.WorkedAt p (s.openPort p h) := by
  unfold State.openPort
  refine ((s.workedAt_setLease p (.held h)).trans (State.workedAt_setPortState _ p .opened)).trans
    (State.workedAt_mapPort _ p _ ?_)
  refine .trans ?_ (Port.keepsLines_judge _)
  refine .trans ?_ (Port.keepsLines_startFilling _)
  exact ⟨rfl, rfl, rfl⟩

theorem State.workedAt_grantHead (s : State) (p : PortId) : s.WorkedAt p (s.grantHead (.port p)) := by
  unfold State.grantHead
  split
  · split
    · exact .refl p s
    · exact ((s.workedAt_setWaits p _).trans (State.workedAt_openPort _ p _)).trans (State.workedAt_enterNotice _ p _ _)
  · exact .refl p s

theorem State.workedAt_enterIdle (s : State) (p : PortId) : s.WorkedAt p (s.enterIdle p) :=
  (s.workedAt_setPortState p _).trans (State.workedAt_grantHead _ p)

theorem State.workedAt_enterSettling (s : State) (p : PortId) : s.WorkedAt p (s.enterSettling p) := by
  unfold State.enterSettling
  dsimp only
  split
  · exact (s.workedAt_setPortState p _).trans (State.workedAt_enterIdle _ p)
  · exact (s.workedAt_setPortState p _).trans (State.workedAt_mapPort _ p _ ⟨rfl, rfl, rfl⟩)

/-! ## The end of a job -/

theorem State.workedAt_endJob (s : State) (p : PortId) : s.WorkedAt p (s.endJob p) := by
  unfold State.endJob
  refine .trans (.trans (.trans ?_ (State.workedAt_mapPort _ p _ ?_)) (State.workedAt_setLease _ _ _))
    (State.workedAt_enterSettling _ _)
  · split
    · split
      · exact s.workedAt_mapPort p _ (Port.keepsLines_setInb _ _ _)
      · exact s.workedAt_handTo _ _ _ _
    · exact s.workedAt_mapPort p _ (Port.keepsLines_setInb _ _ _)
    · exact .refl _ _
  · exact .trans (Port.keepsLines_closeJob _) (.refl _)

theorem State.workedAt_completeDrain (s : State) (p : PortId) : s.WorkedAt p (s.completeDrain p) := by
  unfold State.completeDrain
  split
  · exact s.workedAt_endJob p
  · exact (s.workedAt_enterNotice p _ _).trans (State.workedAt_endJob _ p)

theorem State.workedAt_cutInbound (s : State) (p : PortId) (b : BufId) : s.WorkedAt p (s.cutInbound p b) := by
  unfold State.cutInbound
  split
  · exact .refl p s
  · exact s.workedAt_mapPort p _ (Port.keepsLines_setInb _ b _)
  · split
    · exact (State.workedAt_mapLink p s _ _ (fun l => l.delivered_dataQ _)).trans
        (State.workedAt_mapPort _ p _ (Port.keepsLines_setInb _ b _))
    · exact .refl p s

theorem State.workedAt_cut (s : State) (p : PortId) : s.WorkedAt p (s.cut p) :=
  ((s.workedAt_cutInbound p _).trans (State.workedAt_cutInbound _ p _)).trans
    (State.workedAt_mapPort _ p _ ((Port.keepsLines_closeJob _).trans ⟨rfl, rfl, rfl⟩))

theorem State.workedAt_afterCut (s : State) (p : PortId) : s.WorkedAt p (s.afterCut p) := by
  unfold State.afterCut
  split
  · exact s.workedAt_enterSettling p
  · exact s.workedAt_setPortState p _

theorem State.workedAt_afterRevoke (s : State) (p : PortId) (why : RevokeReason) : s.WorkedAt p (s.afterRevoke p why) := by
  unfold State.afterRevoke
  split <;> first
    | exact s.workedAt_setPortState p _
    | exact .refl p s
    | exact s.workedAt_afterCut p

theorem State.workedAt_noticeRevoked (s : State) (p : PortId) (r : Resource) (h : Holding) (why : RevokeReason) :
    s.WorkedAt p (s.noticeRevoked r h why) := by
  unfold State.noticeRevoked
  split
  · exact s.workedAt_enterNotice p _ _
  · exact .refl p s

theorem State.workedAt_revokePort (s : State) (p : PortId) (why : RevokeReason) : s.WorkedAt p (s.revokePort p why) := by
  unfold State.revokePort
  split
  · exact .refl p s
  · exact (((s.workedAt_cut p).trans (State.workedAt_setLease _ p _)).trans
      (State.workedAt_noticeRevoked _ p _ _ why)).trans (State.workedAt_afterRevoke _ p why)

theorem State.workedAt_tellHolder (s : State) (p : PortId) (body : NoticeBody) : s.WorkedAt p (s.tellHolder p body) := by
  unfold State.tellHolder
  split
  · exact .refl p s
  · exact s.workedAt_enterNotice p _ _

/-! ## Contacts -/

theorem State.workedAt_queueReport (s : State) (p : PortId) (k : LinkId) (r : Report) : s.WorkedAt p (s.queueReport k r) :=
  State.workedAt_mapLink p s k _ (fun l => l.delivered_takeReport r)

theorem State.workedAt_setContact (s : State) (p : PortId) (c : ContactId) (x : Contact) :
    s.WorkedAt p (s.setContact p c x) := s.workedAt_mapPort p _ ⟨rfl, rfl, rfl⟩

theorem State.workedAt_foldl {α : Type} (p : PortId) (f : State → α → State) (h : ∀ (t : State) (a : α), t.WorkedAt p (f t a)) :
    ∀ (as : List α) (s : State), s.WorkedAt p (as.foldl f s)
  | [], s => .refl p s
  | a :: as, s => (h s a).trans (State.workedAt_foldl p f h as (f s a))

theorem State.workedAt_freeContact (s : State) (p : PortId) (c : ContactId) : s.WorkedAt p (s.freeContact p c) := by
  unfold State.freeContact
  refine State.WorkedAt.trans (b := _) ?_ (State.workedAt_setContact _ p c _)
  split
  · split
    · exact .refl p s
    · exact s.workedAt_queueReport p _ _
  · exact .refl p s
  · exact .refl p s

theorem State.workedAt_panelLeavesIdle (s : State) (p : PortId) : s.WorkedAt p (s.panelLeavesIdle p) :=
  (s.workedAt_mapPort p _ ⟨rfl, rfl, rfl⟩).trans (State.workedAt_foldl p _ (fun t c => t.workedAt_freeContact p c) _ _)

end Sys2Proof.Machine
end

