-- ==== Sys2Proof/Laws/Queues.lean ====
section
/-! SUPPORT. The lists the part keeps in order: pending sets, the wait pool, touch queues, and the occupancy of ingress. -/

namespace Sys2Proof.Machine

/-! ## Pending sets -/

theorem Resource.num_lt (r : Resource) : r.num < 64 := by
  cases r with
  | port p => have := p.isLt; simp only [Resource.num]; omega
  | zone z => have := z.isLt; simp only [Resource.num]; omega

theorem Resource.num_injective {r q : Resource} (h : r.num = q.num) : r = q := by
  cases r with
  | port p =>
    cases q with
    | port v => exact congrArg Resource.port (Fin.ext h)
    | zone z => have := p.isLt; simp only [Resource.num] at h; omega
  | zone z =>
    cases q with
    | port v => have := v.isLt; simp only [Resource.num] at h; omega
    | zone v => simp only [Resource.num] at h; exact congrArg Resource.zone (Fin.ext (by omega))

/-- Two notices stand at one place of the order exactly when they are of one kind about one resource. -/
theorem Notice.order_eq_iff (m n : Notice) : m.order = n.order ↔ m.sameKey n = true := by
  have hm := m.resource.num_lt
  have hn := n.resource.num_lt
  simp only [Notice.order, Notice.sameKey, Bool.and_eq_true, beq_iff_eq]
  constructor
  · intro h
    have hr : m.body.rank = n.body.rank := by omega
    exact ⟨hr, Resource.num_injective (by omega)⟩
  · rintro ⟨hr, hq⟩
    rw [hr, hq]

theorem mem_insertNotice (m n : Notice) : ∀ ns : List Notice, m ∈ insertNotice n ns ↔ m = n ∨ m ∈ ns
  | [] => by simp [insertNotice]
  | a :: as => by
    unfold insertNotice
    split
    · simp
    · simp only [List.mem_cons, mem_insertNotice m n as]
      tauto

theorem pairwise_insertNotice (n : Notice) : ∀ ns : List Notice, ns.Pairwise (fun a b => a.order < b.order) →
    (∀ a ∈ ns, a.order ≠ n.order) → (insertNotice n ns).Pairwise (fun a b => a.order < b.order)
  | [], _, _ => by simp [insertNotice]
  | a :: as, h, d => by
    rw [List.pairwise_cons] at h
    unfold insertNotice
    split
    · next lt =>
      refine List.pairwise_cons.2 ⟨?_, List.pairwise_cons.2 h⟩
      intro b hb
      rcases List.mem_cons.1 hb with rfl | hb
      · exact lt
      · exact Nat.lt_trans lt (h.1 b hb)
    · next ge =>
      refine List.pairwise_cons.2 ⟨?_, pairwise_insertNotice n as h.2 (fun b hb => d b (List.mem_cons_of_mem a hb))⟩
      intro b hb
      rcases (mem_insertNotice b n as).1 hb with rfl | hb
      · have := d a List.mem_cons_self
        omega
      · exact h.1 b hb

theorem mem_replaceNotice (m n : Notice) (ns : List Notice) :
    m ∈ replaceNotice n ns ↔ m = n ∨ (m ∈ ns ∧ m.sameKey n = false) := by
  simp only [replaceNotice, mem_insertNotice, List.mem_filter, Bool.not_eq_true']

theorem pairwise_replaceNotice (n : Notice) (ns : List Notice) (h : ns.Pairwise (fun a b => a.order < b.order)) :
    (replaceNotice n ns).Pairwise (fun a b => a.order < b.order) := by
  refine pairwise_insertNotice n _ (h.filter _) ?_
  intro a ha e
  rw [Notice.order_eq_iff] at e
  simp [e] at ha

/-! ## The wait pool -/

theorem mem_insertWait (v w : Wait) : ∀ ws : List Wait, v ∈ insertWait w ws ↔ v = w ∨ v ∈ ws
  | [] => by simp [insertWait]
  | a :: as => by
    unfold insertWait
    split
    · simp
    · simp only [List.mem_cons, mem_insertWait v w as]
      tauto

theorem perm_insertWait (w : Wait) : ∀ ws : List Wait, (insertWait w ws).Perm (w :: ws)
  | [] => .refl _
  | a :: as => by
    unfold insertWait
    split
    · exact .refl _
    · exact ((perm_insertWait w as).cons a).trans (.swap w a as)

theorem length_insertWait (w : Wait) (ws : List Wait) : (insertWait w ws).length = ws.length + 1 := by
  rw [(perm_insertWait w ws).length_eq, List.length_cons]

/-! ## Touch queues -/

theorem length_replaceMove (r : Report) : ∀ (qs rs : List Report), replaceMove r qs = some rs → rs.length = qs.length
  | [], _, h => by simp [replaceMove] at h
  | q :: qs, rs, h => by
    unfold replaceMove at h
    split at h
    · cases h; rfl
    · cases e : replaceMove r qs with
      | none => simp [e] at h
      | some ts =>
        simp only [e, Option.map_some, Option.some.injEq] at h
        subst h
        simp [length_replaceMove r qs ts e]

theorem length_dropMove : ∀ (qs rs : List Report), dropMove qs = some rs → rs.length + 1 = qs.length
  | [], _, h => by simp [dropMove] at h
  | q :: qs, rs, h => by
    unfold dropMove at h
    split at h
    · cases h; rfl
    · cases e : dropMove qs with
      | none => simp [e] at h
      | some ts =>
        simp only [e, Option.map_some, Option.some.injEq] at h
        subst h
        simp [← length_dropMove qs ts e]

/-- A report arriving at a queue that is not empty keeps its length when it is full (R26). -/
theorem length_fullTouch (queue : List Report) (r : Report) (h : queue ≠ []) :
    (fullTouch queue r).length = queue.length := by
  unfold fullTouch
  split
  · next q e =>
    split at e
    · simpa using length_replaceMove r _ q e
    · cases e
  · split
    · next q e => simp [length_dropMove queue q e]
    · have := List.length_pos_iff.2 h
      simp only [List.length_append, List.length_drop, List.length_cons, List.length_nil]
      omega

theorem length_takeReport (l : Link) (r : Report) (h : l.touch.length ≤ 8) : (l.takeReport r).touch.length ≤ 8 := by
  unfold Link.takeReport
  split
  · exact h
  · split
    · next lt =>
      simp only [Config.touchPlaces] at lt
      simp only [List.length_append, List.length_cons, List.length_nil]
      omega
    · next ge =>
      simp only [Config.touchPlaces, Nat.not_lt] at ge
      have ne : l.touch ≠ [] := by
        intro e
        simp [e] at ge
      simp only [Link.mapCounters, length_fullTouch _ r ne]
      exact h

/-! ## Ingress -/

@[simp] theorem Link.rx_judgeHold (was : Nat) (l : Link) : (l.judgeHold was).rx = l.rx := by
  unfold Link.judgeHold; split <;> rfl

@[simp] theorem Link.ingress_judgeHold (was : Nat) (l : Link) : (l.judgeHold was).ingress = l.ingress := by
  unfold Link.judgeHold; split <;> rfl

@[simp] theorem Link.occupancy_judgeHold (was : Nat) (l : Link) : (l.judgeHold was).occupancy = l.occupancy := by
  simp [Link.occupancy]

@[simp] theorem Link.counters_judgeHold (was : Nat) (l : Link) : (l.judgeHold was).counters = l.counters := by
  unfold Link.judgeHold; split <;> rfl

@[simp] theorem Link.profile_judgeHold (was : Nat) (l : Link) : (l.judgeHold was).profile = l.profile := by
  unfold Link.judgeHold; split <;> rfl

@[simp] theorem Link.up_judgeHold (was : Nat) (l : Link) : (l.judgeHold was).up = l.up := by
  unfold Link.judgeHold; split <;> rfl

@[simp] theorem Link.ingress_leaveFrame (next : RxState) (l : Link) : (l.leaveFrame next).ingress = l.ingress := by
  unfold Link.leaveFrame; split <;> rfl

/-- A discarded frame leaves only the stored frames in ingress (R14, R19). -/
theorem Link.occupancy_discardFrame (next : RxState) (l : Link) (h : next.written = 0) :
    (l.discardFrame next).occupancy = (l.ingress.map Frame.space).sum := by
  unfold Link.discardFrame
  rw [Link.occupancy_judgeHold, Link.occupancy, Link.ingress_leaveFrame]
  unfold Link.leaveFrame
  split
  · simp [h]
  · simp [RxState.written]

end Sys2Proof.Machine
end

