-- ==== Sys2Proof/Laws/Resets.lean ====
section
/-! SUPPORT. What a reset leaves at each link, at each port and elsewhere, what a tick counts and what is due, so that
no proof unfolds a fold over links or ports. -/

namespace Sys2Proof.Machine

/-! ## Folds over links and ports -/

theorem mem_linkIds (k : LinkId) : k ∈ linkIds := by revert k; decide

theorem mem_portIds (p : PortId) : p ∈ portIds := by revert p; decide

theorem mem_contactIds (c : ContactId) : c ∈ contactIds := by revert c; decide

/-- What every turn of a fold keeps, the fold keeps. -/
theorem foldl_keeps {α β : Type} (g : State → β) (f : State → α → State) (h : ∀ t a, g (f t a) = g t) (as : List α) :
    ∀ s : State, g (as.foldl f s) = g s := by
  induction as with
  | nil => intro s; rfl
  | cons a as ih => intro s; rw [List.foldl_cons, ih, h]

theorem foldl_setLink_link (f : LinkId → Link) (k : LinkId) : ∀ (ks : List LinkId) (t : State),
    (ks.foldl (fun t j => t.setLink j (f j)) t).link k = if k ∈ ks then f k else t.link k
  | [], t => by simp
  | j :: ks, t => by
    rw [List.foldl_cons, foldl_setLink_link f k ks, State.link_setLink]
    by_cases h : k ∈ ks
    · simp [h]
    · by_cases e : k = j <;> simp [h, e]

theorem foldl_setPort_port (f : PortId → Port) (p : PortId) : ∀ (ps : List PortId) (t : State),
    (ps.foldl (fun t j => t.setPort j (f j)) t).port p = if p ∈ ps then f p else t.port p
  | [], t => by simp
  | j :: ps, t => by
    rw [List.foldl_cons, foldl_setPort_port f p ps, State.port_setPort]
    by_cases h : p ∈ ps
    · simp [h]
    · by_cases e : p = j <;> simp [h, e]

/-! ## The state after reset -/

theorem link_reset : ∀ k : LinkId, State.reset.link k = Link.reset (k == 0) := by decide

theorem port_reset (p : PortId) : State.reset.port p = Port.reset := by simp [State.reset, State.port]

theorem atReset_resetAt (m pin present holdIn : Bool) : (Link.resetAt m pin present holdIn).AtReset m := by
  constructor <;> first | rfl | exact ⟨rfl, rfl, rfl⟩ | exact ⟨rfl, rfl, rfl, rfl⟩

theorem atReset_portResetAt (a b c d e : Bool) : (Port.resetAt a b c d e).AtReset := by
  constructor <;> first
    | rfl
    | exact ⟨rfl, rfl⟩
    | exact ⟨rfl, rfl, rfl⟩
    | exact ⟨rfl, rfl, rfl, rfl⟩
    | exact ⟨rfl, rfl, rfl, rfl, rfl⟩
    | (refine ⟨rfl, ?_⟩; intro c; simp [Port.resetAt, Port.reset, Contact.reset])

/-! ## A reset -/

theorem link_resetBy (s : State) (f : LinkId → Link → Link) (g : PortId → Port → Port) (k : LinkId) :
    (s.resetBy f g).link k = f k (s.link k) := by
  unfold State.resetBy
  have h := foldl_keeps (fun t => State.link t k) (fun t p => t.setPort p (g p (s.port p))) (fun _ _ => rfl) portIds
  dsimp only at h ⊢
  rw [h, foldl_setLink_link (fun k => f k (s.link k))]
  simp [mem_linkIds]

theorem port_resetBy (s : State) (f : LinkId → Link → Link) (g : PortId → Port → Port) (p : PortId) :
    (s.resetBy f g).port p = g p (s.port p) := by
  unfold State.resetBy
  rw [foldl_setPort_port (fun p => g p (s.port p))]
  simp [mem_portIds]

/-- What neither a link nor a port holds is as in the state after reset. -/
theorem rest_resetBy {β : Type} (h : State → β) (hl : ∀ t k l, h (State.setLink t k l) = h t)
    (hp : ∀ t p x, h (State.setPort t p x) = h t) (s : State) (f : LinkId → Link → Link) (g : PortId → Port → Port) :
    h (s.resetBy f g) = h { State.reset with choices := s.choices, pending := s.pending } := by
  unfold State.resetBy
  rw [foldl_keeps h _ (fun t a => hp t _ _), foldl_keeps h _ (fun t a => hl t _ _)]

theorem inReset_resetBy (s : State) (f : LinkId → Link → Link) (g : PortId → Port → Port) :
    (s.resetBy f g).inReset = false :=
  rest_resetBy State.inReset (fun _ _ _ => rfl) (fun _ _ _ => rfl) s f g

/-- A reset whose links and ports are at reset values leaves every item at its reset value. -/
theorem atReset_resetBy (s : State) (f : LinkId → Link → Link) (g : PortId → Port → Port)
    (hf : ∀ k l, (f k l).AtReset (k == 0)) (hg : ∀ p x, (g p x).AtReset) : (s.resetBy f g).AtReset where
  links k := by rw [link_resetBy]; exact hf _ _
  ports p := by rw [port_resetBy]; exact hg _ _
  windows i := by
    rw [show (s.resetBy f g).windows = State.reset.windows from
      rest_resetBy State.windows (fun _ _ _ => rfl) (fun _ _ _ => rfl) s f g]
    simp [State.reset, Window.reset]
  zones i := by
    unfold State.zone
    rw [show (s.resetBy f g).zones = State.reset.zones from
      rest_resetBy State.zones (fun _ _ _ => rfl) (fun _ _ _ => rfl) s f g]
    simp [State.reset, Zone.reset]
  leases r := by
    rw [show (s.resetBy f g).lease r = State.reset.lease r from
      (rest_resetBy (fun t => t.lease r) (by simp) (by simp) s f g).trans (by cases r <;> rfl)]
    cases r <;> simp [State.reset, State.lease]
  waits := rest_resetBy State.waits (fun _ _ _ => rfl) (fun _ _ _ => rfl) s f g
  report := rest_resetBy State.reportLink (fun _ _ _ => rfl) (fun _ _ _ => rfl) s f g
  restart := rest_resetBy State.restart (fun _ _ _ => rfl) (fun _ _ _ => rfl) s f g

theorem atReset_inReset (t : State) (h : t.AtReset) (b : Bool) : ({ t with inReset := b } : State).AtReset :=
  ⟨h.1, h.2, h.3, h.4, h.5, h.6, h.7, h.8⟩

theorem link_pinReset (s : State) (k : LinkId) : s.pinReset.link k =
    { Link.resetAt (resetMgmt k) (s.link k).presentPin false (s.link k).holdInPin with tx := .rest } := by
  have h : s.pinReset.link k = (s.resetBy
    (fun k l => { Link.resetAt (resetMgmt k) l.presentPin false l.holdInPin with tx := .rest })
    (fun _ p => Port.resetAt p.readyPin p.faultPin p.busyPin false false)).link k := rfl
  rw [h, link_resetBy]

theorem port_pinReset (s : State) (p : PortId) : s.pinReset.port p =
    Port.resetAt (s.port p).readyPin (s.port p).faultPin (s.port p).busyPin false false := by
  have h : s.pinReset.port p = (s.resetBy
    (fun k l => { Link.resetAt (resetMgmt k) l.presentPin false l.holdInPin with tx := .rest })
    (fun _ p => Port.resetAt p.readyPin p.faultPin p.busyPin false false)).port p := rfl
  rw [h, port_resetBy]

/-! ## A tick -/

@[simp] theorem link_tick (s : State) (k : LinkId) : s.tick.link k = (s.link k).tick := by
  simp [State.tick, State.link]

@[simp] theorem port_tick (s : State) (p : PortId) : s.tick.port p = (s.port p).tick := by
  simp [State.tick, State.port]

/-! ## What is due -/

theorem mem_dueAll (d : Due) : d ∈ Due.all := by
  cases d with
  | restart => exact List.mem_cons_self
  | present k => revert k; decide
  | selfDisable k => revert k; decide
  | ready p => revert p; decide
  | fault p => revert p; decide
  | idle p => revert p; decide
  | grace p => revert p; decide
  | stall p => revert p; decide
  | turn p => revert p; decide
  | gather p => revert p; decide

@[simp] theorem mem_due (s : State) (d : Due) : d ∈ s.due ↔ d.isDue s = true := by
  simp [State.due, mem_dueAll]

theorem State.whenDue_due {s : State} {d : Due} (t : State) (h : d.isDue s = true) : s.whenDue d t = t := by
  simp [State.whenDue, h]

theorem State.whenDue_not_due {s : State} {d : Due} (t : State) (h : d.isDue s = false) : s.whenDue d t = s := by
  simp [State.whenDue, h]

theorem Due.present_isDue (s : State) (k : LinkId) :
    (Due.present k).isDue s = true ↔ 10 ≤ (s.link k).presentTicks := decide_eq_true_iff

theorem Due.ready_isDue (s : State) (p : PortId) : (Due.ready p).isDue s = true ↔ 10 ≤ (s.port p).readyTicks :=
  decide_eq_true_iff

theorem Due.fault_isDue (s : State) (p : PortId) : (Due.fault p).isDue s = true ↔ 10 ≤ (s.port p).faultTicks :=
  decide_eq_true_iff

theorem Due.restart_isDue (s : State) : Due.restart.isDue s = true ↔ ∃ n, s.restart = some n ∧ 100 ≤ n := by
  simp only [Due.isDue, Option.any_eq_true]
  exact exists_congr fun n => and_congr_right fun _ => decide_eq_true_iff

theorem Due.selfDisable_isDue (s : State) (k : LinkId) :
    (Due.selfDisable k).isDue s = true ↔ ∃ n, (s.link k).selfDisable = some (.running n) ∧ 100 ≤ n := by
  simp only [Due.isDue, Option.any_eq_true]
  constructor
  · rintro ⟨d, e, h⟩
    cases d with
    | running n => exact ⟨n, e, of_decide_eq_true h⟩
    | superseded => simp [SelfDisable.over] at h
  · rintro ⟨n, e, h⟩
    exact ⟨_, e, decide_eq_true h⟩

/-- Whatever the free value, what is chosen is one of the things to choose from. -/
theorem mem_chosen {α : Type} (n : Nat) (a : α) (as : List α) : chosen n a as ∈ a :: as := by
  unfold chosen
  rw [List.getD_eq_getElem _ _ (by rw [List.length_cons]; exact Nat.mod_lt _ (Nat.succ_pos _))]
  exact List.getElem_mem _

end Sys2Proof.Machine
end

