-- ==== Sys2Proof/Tests/Slice0.lean ====
section
/-! SUPPORT. Tests of the model: the well-formedness checks, worked examples of the manual, and for each statement that
has hypotheses a state and operands that meet them, clause by clause, at the ends of the ranges. -/

namespace Sys2Proof.Tests

open Sys2Proof.Machine

-- One proof at a time: each of the proofs below waits for the kernel, and many at once need many threads.
set_option Elab.async false

/-! ## Small states -/

/-- The next state of an outcome. -/
def nextOf (o : Host.Outcome State Fault Refusal) : Option State :=
  match o with
  | .next t => some t
  | .fault _ => none
  | .refused _ => none

/-- Link K0 UP. -/
def upLink : Link := { Link.reset true with present := true, presentPin := true }

/-- A part whose link K0 is as given. -/
def withLink (l : Link) : State := State.reset.setLink 0 l

/-- Port P0 as given, leased as given, with link K0 UP. -/
def withPort (p : Port) (l : Lease) : State := ((withLink upLink).setPort 0 p).setLease (.port 0) l

/-- A lease of K0. -/
def held : Lease := .held ⟨0, .pub, 7⟩

/-- A lease of K0 that is being released. -/
def releasing : Lease := .releasing ⟨0, .pub, 7⟩

/-- A port whose peripheral is ready, in a state. -/
def readyPort (st : PortState) : Port := { Port.reset with ready := true, readyPin := true, state := st }

/-- A port with an open job and nothing staged. -/
def jobPort : Port :=
  { readyPort .opened with select := true, credit := 2, i0 := .filling [], frameSize := some 256 }

/-- A PANEL port in a state. -/
def panelPort (st : PortState) : Port :=
  { readyPort st with profile := { PortProfile.reset with kind := .panel, strayLink := some 0 } }

/-- Every right for every class. -/
def allRights : Rights := ⟨⟨true, true, true⟩, ⟨true, true, true⟩, ⟨true, true, true⟩⟩

/-- A frame in hand at link K0. -/
def inHand (r : Request) (s : State) : State :=
  s.setLink 0 { s.link 0 with hand := some ⟨5, 0x1234, r⟩ }

/-- A management command in hand at link K0. -/
def commanded (cmd : MgmtCmd) (payload : List Byte) : State := inHand (.mgmt cmd payload) (withLink upLink)

/-- A level for every line. -/
def lines (level : Bool) : Levels :=
  ⟨List.replicate 8 level, List.replicate 6 level, List.replicate 6 level⟩

/-- A received character without error. -/
def char (b : Byte) : RxChar := ⟨b, true, true, true, 0⟩

/-! ## Well-formedness -/

theorem test_resetEnd_wellFormed : (Instr.resetEnd (lines true)).wellFormed = true := by decide

theorem test_resetEnd_seven_present_refused :
    (Instr.resetEnd { lines true with present := List.replicate 7 true }).wellFormed = false := by decide

theorem test_resetEnd_seven_ready_refused :
    (Instr.resetEnd { lines true with ready := List.replicate 7 true }).wellFormed = false := by decide

theorem test_resetEnd_no_fault_refused :
    (Instr.resetEnd { lines true with fault := [] }).wellFormed = false := by decide

theorem test_no_word_spells_a_command : decodeTableWord 16 0x1234 = none := rfl

/-! ## Examples of the manual -/

/-- The remark of R5. -/
theorem test_crc_of_the_digits :
    crcOf [0x31, 0x32, 0x33, 0x34, 0x35, 0x36, 0x37, 0x38, 0x39] = 0x29B1 := by decide +kernel

/-- 11.1: a STATUS frame, received behind idle fill, is stored whole. -/
theorem test_status_frame_is_stored :
    (([0x55, 0x55] ++ (Frame.wire ⟨0x04, 0x55, 0x1002, []⟩)).foldl (fun l b => Link.receiveByte b l) upLink).ingress =
      [⟨0x04, 0x55, 0x1002, []⟩] := by decide +kernel

/-- R12: idle fill inside a frame aborts it. -/
theorem test_idle_fill_aborts :
    let l := [0xC3, 0x3C, 0x04, 0x9E, 0x55].foldl (fun l b => Link.receiveByte b l) upLink
    l.rx = .hunt ∧ l.counters.aborted = 1 ∧ l.occupancy = 0 := by decide +kernel

/-- R70: after reset every decoded frame is answered NO_SERVICE. -/
theorem test_no_service_after_reset :
    (nextOf (step { (withLink { upLink with ingress := [⟨0x01, 9, 0x1000, [0]⟩] }) with
      pending := [.frameTaken 0] })).map (fun t => (t.link 0).control) =
      some [⟨⟨0x81, 9, 0x1000, [0x20, 0xFF, 0x00]⟩, none⟩] := by decide +kernel

/-- 11.3.3: a GRANTED notice of a port carries the credit. -/
theorem test_granted_notice :
    Notice.frame ⟨.granted, .port 3, 0x21⟩ = ⟨0x82, 0x21, 0x0003, [4, 0x03, 2]⟩ := by decide

/-- R181: the five bytes of a report. -/
theorem test_touch_report :
    (leadPhase 0xA3, leadContact 0xA3, coordFrom 0x20 0x01) = (some .move, some 3, 0x801) := by decide

/-- R103: a character of 8 data bits with even parity and two stop bits. -/
theorem test_character_bits :
    charBits ⟨.r9600, .even, .two⟩ 0x43 =
      [false, true, true, false, false, false, false, true, false, true, true, true] := by decide

/-- R116: a turnaround of 0 lets a SETTLING port go on to IDLE at once. -/
theorem test_turnaround_zero :
    let p : Port := { jobPort with profile := { PortProfile.reset with turnaround := 0 } }
    (((withPort p held).endJob 0).port 0).state = .idle := by decide +kernel

/-- R180: a level is taken at the tenth tick that finds it changed. -/
theorem test_ten_ticks :
    let s (n : Nat) := State.reset.setPort 0 { Port.reset with readyPin := true, readyTicks := n }
    (s 9).tick.due = [.ready 0] ∧ (s 8).tick.due = [] := by decide +kernel

/-- R180: a level that the line takes on is no present state before its tenth tick, and is one after it. -/
theorem test_present_is_taken_at_the_tenth_tick :
    ((nextOf (exec (.presentChangeTaken 0 true) State.reset)).map (fun t => ((t.link 0).presentPin, (t.link 0).up)) =
        some (true, false)) ∧
      let s := State.tick (withLink { Link.reset true with presentPin := true, presentTicks := 9 })
      (nextOf (exec (.presentChangeTaken 0 true) s)).map (fun t => (t.link 0).up) = some true := by decide +kernel

/-- R180: a line that goes back before its tenth tick begins its count again. -/
theorem test_a_short_change_is_not_taken :
    (nextOf (exec (.readyChangeTaken 0 false) (State.reset.setPort 0
      { Port.reset with readyPin := true, readyTicks := 9 }))).map
      (fun t => ((t.port 0).readyPin, (t.port 0).readyTicks, (t.port 0).ready)) = some (false, 0, false) := by
  decide +kernel

/-- R1: the levels of a character, and the byte sampled from one whose stop bit is missing. -/
theorem test_link_character :
    linkCharBits 0xC3 = [false, true, true, false, false, false, false, true, true, true] ∧
      LinkChar.ofLevels [false, true, true, false, false, false, false, true, true, false] = some ⟨0xC3, false⟩ := by
  decide +kernel

/-- R103: a character over two loads of the profile is judged in the format it was begun in. -/
theorem test_character_over_two_loads :
    let p := ((Port.reset.load { PortProfile.reset with format := ⟨.r2400, .odd, .one⟩ }).load
      { PortProfile.reset with format := ⟨.r4800, .even, .two⟩ })
    p.rxFormat { char 0 with loads := 2 } = LineFormat.reset ∧
      p.rxFormat { char 0 with loads := 1 } = ⟨.r2400, .odd, .one⟩ ∧ p.rxFormat (char 0) = ⟨.r4800, .even, .two⟩ := by
  decide +kernel

/-- R79: a CLAIM of an IDLE port opens it for the claimant, with credit 2. -/
theorem test_claim_grants_an_idle_port :
    (nextOf (exec (.claim 0) (inHand (.claim (.port 0) allRights false) (withPort (readyPort .idle) .free)))).map
      (fun t => ((t.link 0).control, t.lease (.port 0), (t.port 0).state, (t.port 0).select)) =
      some ([⟨⟨0x81, 5, 0x1234, [0, 0, 2]⟩, none⟩], .held ⟨0, .pub, 5⟩, .opened, true) := by decide +kernel

/-- R89: a RELEASE with data staged makes the lease RELEASING and the port CLOSING. -/
theorem test_release_with_data_staged_closes :
    let p : Port := { jobPort with o0 := some ⟨[9], 0⟩, fillOrder := [.b0], credit := 1 }
    (nextOf (exec (.release 0) (inHand (.release (.port 0) allRights) (withPort p held)))).map
      (fun t => ((t.link 0).control, t.lease (.port 0), (t.port 0).state)) =
      some ([⟨⟨0x81, 5, 0x1234, [2, 0, 0]⟩, none⟩], releasing, .closing) := by decide +kernel

/-- R47: an accepted DATA frame is staged and not answered. -/
theorem test_data_is_staged_without_answer :
    (nextOf (exec (.data 0) (inHand (.data (.port 0) allRights [1, 2]) (withPort jobPort held)))).map
      (fun t => ((t.link 0).control, (t.port 0).o0, (t.port 0).credit)) =
      some ([], some ⟨[1, 2], 0⟩, 1) := by decide +kernel

/-- R48: a STATUS report of a port held by the asker. -/
theorem test_status_of_a_held_port :
    (nextOf (exec (.status 0) (inHand (.status (.port 0) allRights) (withPort jobPort held)))).map
      (fun t => (t.link 0).control) =
      some [⟨⟨0x81, 5, 0x1234, [0, 0, 0, 1, 1, 0, 0, 3, 2]⟩, none⟩] := by decide +kernel

/-- R129: the last byte of a buffer frees it, and the holder is told of the credit. -/
theorem test_last_byte_returns_credit :
    let p : Port := { jobPort with o0 := some ⟨[9], 0⟩, fillOrder := [.b0], credit := 1, tx := .job .b0 9 }
    (nextOf (exec (.portCharacterSent 0 false) (withPort p held))).map
      (fun t => ((t.port 0).o0, (t.port 0).credit, (t.link 0).notices)) =
      some (none, 2, [⟨.credit 1, .port 0, 7⟩]) := by decide +kernel

/-- R153, R157: the fifth byte of a DOWN report on a held zone captures the contact and queues the report. -/
theorem test_touch_is_forwarded_to_the_holder :
    let p : Port := { panelPort .idle with assembler := .assembling 0x82 [0x20, 0x01, 0x00] }
    let s := ((withPort p .free).setZone 4 ⟨true, 0, 0x800, 0x7FF, 0, 0xFFF⟩).setLease (.zone 4) held
    (nextOf (exec (.portCharacterReceived 0 (char 0x05)) s)).map
      (fun t => ((t.link 0).touch, (t.contact 0 2).state)) =
      some ([⟨some 4, 0, .down, 2, 0x801, 5⟩], .captured 4) := by decide +kernel

/-- R66: a loaded window governs from then on. -/
theorem test_loaded_window_governs :
    let s := commanded .loadWindow [1, 3, 1, 0x10, 0, 0, 0x0F, 1, 31, 7, 7, 7]
    (nextOf (exec (.loadWindow 0) s)).map (fun t => (t.govern 0x100A).map Window.target) = some (some (.zone 31)) := by
  decide +kernel

/-- R112: the grace timer's expiry ends a suspended job. -/
theorem test_grace_expiry_revokes :
    let p : Port := { jobPort with state := .suspended, fault := true, remembered := some .opened, graceTimer := some 0 }
    (nextOf (exec (.graceTimerExpiry 0) (withPort p held))).map
      (fun t => (t.lease (.port 0), (t.port 0).state, (t.link 0).notices)) =
      some (.free, .offline, [⟨.revoked .fault, .port 0, 7⟩]) := by decide +kernel

/-- R179: a timer with time left does not expire. -/
theorem test_a_timer_with_time_left_does_not_expire :
    let p : Port := { jobPort with idleTimer := some 1 }
    nextOf (exec (.idleTimerExpiry 0) (withPort p held)) = some (withPort p held) := by decide +kernel

/-! ## States and operands that meet the hypotheses of the statements -/

/-- Filters one tick short of the tenth, bounds one short of 100 ms and timers at 1, before a tick and after it. -/
theorem test_witness_EmptyQueueStepTicksOrTakes :
    let p : Port := { jobPort with
      idleTimer := some 1, graceTimer := some 1, stallTimer := some 1, turnTimer := some 1, gatherTimer := some 1,
      readyPin := false, readyTicks := 9, faultPin := true, faultTicks := 9 }
    let l : Link := { upLink with presentPin := false, presentTicks := 9, selfDisable := some (.running 99) }
    let s : State := { ((withPort p held).setLink 0 l) with restart := some 99 }
    State.reset.pending = [] ∧ State.reset.inReset = false ∧ (State.pinReset State.reset).inReset = true ∧
      (State.pinReset State.reset).pending = [] ∧ State.reset.due = [] ∧ s.pending = [] ∧ s.inReset = false ∧
      s.due = [] ∧ s.tick.pending = [] ∧ s.tick.inReset = false ∧
      s.tick.due = [.restart, .present 0, .selfDisable 0, .ready 0, .fault 0, .idle 0, .grace 0, .stall 0, .turn 0,
        .gather 0] ∧
      (s.tick.link 0).presentTicks = 10 ∧ (s.tick.link 0).selfDisable = some (.running 100) ∧
      s.tick.restart = some 100 ∧ (s.tick.port 0).idleTimer = some 0 := by
  decide +kernel

theorem test_witness_PinResetHoldsThePart :
    (State.pinReset State.reset).inReset = true ∧ (lines true).wellFormed = true ∧ (lines false).wellFormed = true ∧
      State.reset.inReset = false ∧ Instr.restartTimeout ≠ .pinReset := by
  decide +kernel

/-- A RESTART in hand, and a restart under way for 99 and for 100 ms. -/
theorem test_witness_RestartBringsReset :
    let l : Link := { upLink with tx := .sending ⟨0x81, 0, 0, []⟩ [] (.control (some .restart)) }
    let s (n : Nat) : State := { withLink l with restart := some n }
    Handles (commanded .restart [0x0F]) 0 ⟨5, 0x1234, .mgmt .restart [0x0F]⟩ none ∧
      State.reset.restart = none ∧ (s 99).inReset = false ∧ (s 99).restart = some 99 ∧ (s 100).inReset = false ∧
      (s 100).restart = some 100 ∧ (s 0).restart ≠ none ∧
      ((s 0).link 0).tx = .sending ⟨0x81, 0, 0, []⟩ [] (.control (some .restart)) := by
  decide +kernel

theorem test_witness_LinkCharactersCarryBytes :
    State.reset.inReset = false ∧ (linkCharBits 0x55).length = 10 ∧
      LinkTx.levels (.sending ⟨0x81, 0, 0, []⟩ (Frame.wire ⟨0x81, 0, 0, []⟩) .touch) ≠ [] := by
  decide +kernel

theorem test_witness_CheckWordIsTheCrc :
    crcOf [0x41] = wordOf 0xB9 0x15 ∧ crcOf [0x41, 0xB9, 0x15] = 0 ∧ (0x8000 : Word).getLsbD 15 = true := by
  decide +kernel

theorem test_witness_FramesAreSentUnderTransparency :
    (0x3C : Byte) ≠ 0xC3 ∧ (0x3C : Byte) ≠ 0x55 ∧ (0x3C : Byte) ≠ 0x9E := by decide

theorem test_witness_ReceiverOutsideAFrame :
    (State.reset.link 0).up = false ∧ (withLink upLink).inReset = false ∧ ((withLink upLink).link 0).up = true ∧
      ((withLink upLink).link 0).rx = .hunt ∧ ((withLink { upLink with rx := .armed }).link 0).rx = .armed ∧
      ((withLink { upLink with rx := .armed }).link 0).up = true ∧ (0x9E : Byte) ≠ 0xC3 ∧ (0x9E : Byte) ≠ 0x3C := by
  decide +kernel

theorem test_witness_ReceiverInsideAFrame :
    let a : Assembly := ⟨[1], 0, 0xFFFF, [], false⟩
    let s := withLink { upLink with rx := .frame .header a }
    let u := withLink { upLink with rx := .frame .header { a with escape := true } }
    s.inReset = false ∧ (s.link 0).up = true ∧ (s.link 0).rx = .frame .header a ∧ a.escape = false ∧
      (u.link 0).rx = .frame .header { a with escape := true } ∧ (u.link 0).up = true ∧ u.inReset = false ∧
      (0x9E : Byte) ≠ 0xC3 ∧ (0x9E : Byte) ≠ 0x55 ∧ (0x9E : Byte) ≠ 0xE3 ∧ (0x9E : Byte) ≠ 0x75 ∧ (0x9E : Byte) ≠ 0xBE ∧
      (0x3C : Byte) ≠ 0x9E ∧ (0x3C : Byte) ≠ 0xC3 ∧ (0x3C : Byte) ≠ 0x55 ∧
      upLink.rxNewRate = none ∧ { upLink with rxNewRate := some .r230400 }.rxNewRate = some .r230400 ∧
    let waiting : Link := { upLink with rx := .frame .header a, rxNewRate := some .r230400 }
    waiting.rxNewRate = some .r230400 ∧ waiting.occupancy = 1 ∧ (waiting.discardFrame .armed).rx = .hunt ∧
      (waiting.discardFrame .armed).rxRate = .r230400 ∧ (waiting.discardFrame .armed).occupancy = 0 := by
  decide +kernel

/-- The ends of the ranges: a full ingress, one byte short of it, and lengths 1024 and 1025; each end of a frame while a rate
waits; the byte that reaches the high mark. -/
theorem test_witness_ContentBytesBuildTheFrame :
    let a5 : Assembly := ⟨[1, 2, 3, 4, 4], 0, 0xFFFF, [], false⟩
    let l := { upLink with rx := .frame .header a5 }
    let full := { l with ingress := [⟨1, 0, 0, List.replicate 1018 0⟩, ⟨1, 0, 0, List.replicate 1013 0⟩] }
    let room := { l with ingress := [⟨1, 0, 0, List.replicate 1018 0⟩, ⟨1, 0, 0, List.replicate 1012 0⟩] }
    let check (crc : Word) := { upLink with rx := .frame .check ⟨[1, 2, 3, 4, 0, 0], 0, crc, [7], false⟩ }
    full.occupancy = 2048 ∧ room.occupancy = 2047 ∧ l.rx = .frame .header a5 ∧ a5.written = [1, 2, 3, 4, 4] ∧
      (wordOf 4 0).toNat = 1024 ∧ (wordOf 4 1).toNat = 1025 ∧ l.rxNewRate = none ∧
      ({ a5 with written := [1, 2, 3, 4] }).written.length < 5 ∧
      (check 0x0700).rxNewRate = none ∧ crcByte 0x0700 7 = 0 ∧ crcByte 0x0701 7 ≠ 0 ∧
    let waits (l : Link) : Link := { l with rxNewRate := some .r230400 }
    let long := Link.contentByte .header a5 1 (waits l)
    let good := Link.contentByte .check ⟨[1, 2, 3, 4, 0, 0], 0, 0x0700, [7], false⟩ 7 (waits (check 0x0700))
    let bad := Link.contentByte .check ⟨[1, 2, 3, 4, 0, 0], 0, 0x0701, [7], false⟩ 7 (waits (check 0x0701))
    let high : Link := { l with profile := { l.profile with high := 6, low := 1 } }
    (waits l).rxNewRate = some .r230400 ∧ l.rx = .frame .header a5 ∧
      long.rx = .hunt ∧ long.rxRate = .r230400 ∧ long.rxNewRate = none ∧ long.counters.lengthErrors = 1 ∧
      good.rx = .hunt ∧ good.rxRate = .r230400 ∧ good.ingress = [⟨1, 2, 0x0304, []⟩] ∧ good.counters.accepted = 1 ∧
      bad.rx = .hunt ∧ bad.rxRate = .r230400 ∧ bad.ingress = [] ∧ bad.counters.checkErrors = 1 ∧
      high.holdOut = false ∧ (Link.contentByte .header a5 0 high).holdOut = true := by
  decide +kernel

/-- A frame of 1024 payload bytes and one that fills ingress. -/
theorem test_witness_SentFrameIsStored :
    let f : Frame := ⟨1, 2, 3, List.replicate 1012 0⟩
    let l := { upLink with ingress := [⟨1, 2, 3, List.replicate 1024 0⟩] }
    l.rx = .hunt ∧ l.rxNewRate = none ∧ f.payload.length ≤ 1024 ∧ l.occupancy + 6 + f.payload.length = 2048 := by
  decide +kernel

/-- Occupancy at, and one off, each mark. -/
theorem test_witness_HoldOutFollowsTheMarks :
    let at' (n : Nat) := { upLink with ingress := [⟨1, 0, 0, List.replicate (n - 6) 0⟩] }
    (at' 1536).profile.high.toNat = (at' 1536).occupancy ∧ (at' 1535).occupancy < (at' 1535).profile.high.toNat ∧
      (at' 512).occupancy = (at' 512).profile.low.toNat ∧ (at' 513).profile.low.toNat < (at' 513).occupancy ∧
      (at' 512).occupancy ≠ 0 ∧ (at' 512).holdOut = false ∧ ({ at' 512 with holdOut := true } : Link).holdOut = true := by
  decide +kernel

/-- Nine ticks and ten; a self-disable of 99 and of 100 ms. -/
theorem test_witness_PresentMovesTheLink :
    let coming (n : Nat) (l : Link) := withLink { l with presentPin := true, presentTicks := n }
    let going (l : Link) := withLink { l with presentPin := false, presentTicks := 10 }
    let off : Link := { Link.reset true with profile := { LinkProfile.reset true with enabled := false } }
    let dying (ms : Nat) := withLink { upLink with
      profile := { LinkProfile.reset true with enabled := false }, selfDisable := some (.running ms) }
    (coming 9 (Link.reset true)).inReset = false ∧ ((coming 9 (Link.reset true)).link 0).presentTicks < 10 ∧
      ((coming 9 (Link.reset true)).link 0).presentPin = true ∧ ((coming 10 upLink).link 0).present = true ∧
      10 ≤ ((coming 10 upLink).link 0).presentTicks ∧ ((coming 10 upLink).link 0).presentPin ≠ false ∧
      (coming 10 (Link.reset true)).inReset = false ∧ ((coming 10 (Link.reset true)).link 0).present = false ∧
      ((coming 10 (Link.reset true)).link 0).profile.enabled = true ∧
      ((coming 10 off).link 0).profile.enabled = false ∧ ((coming 10 off).link 0).selfDisable = none ∧
      ((coming 10 { off with selfDisable := some .superseded }).link 0).selfDisable ≠ none ∧
      (going upLink).inReset = false ∧ ((going upLink).link 0).presentPin = false ∧
      ((going upLink).link 0).present = true ∧ ((going upLink).link 0).up = true ∧
      10 ≤ ((going upLink).link 0).presentTicks ∧
      ((going { off with present := true }).link 0).up = false ∧
      ((dying 100).link 0).selfDisable = some (.running 100) ∧ ((dying 99).link 0).selfDisable = some (.running 99) ∧
      ((dying 100).link 0).profile.enabled = false ∧ (dying 100).inReset = false ∧
      (State.reset.link 0).selfDisable = none := by
  decide +kernel

theorem test_witness_TransmitterChoosesInOrder :
    let c : ControlFrame := ⟨⟨0x81, 1, 2, [0, 0, 0]⟩, none⟩
    let r : Report := ⟨none, 0, .down, 0, 0, 0⟩
    let e : DataEntry := ⟨0, .b0, 1⟩
    let s1 := withLink { upLink with control := [c], touch := [r], dataQ := [e] }
    let s2 := withLink { upLink with touch := [r], dataQ := [e] }
    let s3 := withLink { upLink with dataQ := [e] }
    (State.reset.link 0).tx = .idleFill ∧ State.reset.inReset = false ∧ (State.reset.link 0).up = false ∧
      (s1.link 0).up = true ∧ (s1.link 0).tx = .idleFill ∧ (s1.link 0).control = [c] ∧
      (s2.link 0).control = [] ∧ (s2.link 0).touch = [r] ∧ (s2.link 0).up = true ∧
      (s3.link 0).touch = [] ∧ (s3.link 0).dataQ = [e] ∧ (s3.link 0).up = true ∧ (s3.link 0).control = [] ∧
      ((withLink upLink).link 0).dataQ = [] ∧
    let f : Frame := ⟨0x83, 0, 0, [1]⟩
    let sending (src : TxSource) := { upLink with tx := .sending f f.wire src, dataQ := [e] }
    let dying : Link := { sending (.control (some .selfDisable)) with selfDisable := some (.running 0) }
    (withLink (sending .touch)).inReset = false ∧
      ((withLink (sending .touch)).link 0).tx = .sending f f.wire .touch ∧
      ((withLink (sending .data)).link 0).tx = .sending f f.wire .data ∧
      ((withLink (sending .data)).link 0).dataQ = [e] ∧
      ((withLink dying).link 0).tx = .sending f f.wire (.control (some .selfDisable)) ∧
      ((withLink dying).link 0).selfDisable = some (.running 0) ∧
    (∀ v : ZoneId, v = 0 ∨ v = 31 →
      Report.frame ⟨some v, 5, .up, 9, 0xFFF, 0⟩ =
        ⟨0x84, 0, wordOf 0 (byteOf (32 + v.val)), [byteOf v.val, 5, 2, 9, 0x0F, 0xFF, 0, 0]⟩) ∧
      Report.frame r = ⟨0x84, 0, 0x00FF, [0xFF, 0, 0, 0, 0, 0, 0, 0]⟩ ∧
      ((withPort { jobPort with i1 := .handed [9] 0 true } held).port 0).inb .b1 = .handed [9] 0 true ∧
      State.entryBytes (withPort { jobPort with i1 := .handed [9] 0 true } held) ⟨0, .b1, 1⟩ = [9] ∧
    let bufs (p : Port) (a b : InBuf) : Port := { p with i0 := a, i1 := b }
    let gone : InBuf := .handed [1] 0 true
    jobPort.state = .opened ∧ (readyPort .idle).state = .idle ∧ (bufs jobPort gone gone).i1 = gone ∧
      (Port.returnBuffer .b0 (bufs jobPort gone gone)).i0 = .filling [] ∧
      (Port.returnBuffer .b1 (bufs jobPort gone gone)).i1 = .filling [] ∧
      (Port.returnBuffer .b0 (bufs jobPort gone (.filling [2]))).i0 = .free ∧
      (Port.returnBuffer .b1 (bufs jobPort (.filling [2]) gone)).i1 = .free ∧
      (Port.returnBuffer .b0 (bufs (readyPort .idle) gone .free)).i0 = .free ∧
      (Port.returnBuffer .b0 { bufs jobPort gone gone with paused := true }).paused = false := by
  decide +kernel

/-- A control queue with one place left, with a notice pending, and one with none pending. -/
theorem test_witness_TakenFrameIsJudged :
    let c : ControlFrame := ⟨⟨0x81, 1, 2, [0, 0, 0]⟩, none⟩
    let stored (f : Frame) := withLink { upLink with ingress := [f] }
    let crowded := withLink { upLink with
      ingress := [⟨0x0E, 0, 0, []⟩], control := List.replicate 7 c, notices := [⟨.released, .port 0, 0⟩] }
    let win : State := { stored ⟨0x01, 0, 0, [1]⟩ with
      windows := (stored ⟨0x01, 0, 0, [1]⟩).windows.set 16 ⟨true, 0, 0, .port 0, allRights⟩ }
    MayTake (stored ⟨0x0E, 0, 0, []⟩) 0 ∧ MayTake crowded 0 ∧
      ((stored ⟨0x0F, 0, 0, [15]⟩).link 0).profile.mgmt = true ∧ MgmtCmd.ofByte 15 = some .restart ∧
      MgmtCmd.ofByte 16 = none ∧ MgmtCmd.ofByte 0 = none ∧ MgmtCmd.ofByte 1 = some .loadWindow ∧
      (({ upLink with profile := { upLink.profile with mgmt := false } } : Link)).profile.mgmt = false ∧
      ([2] : List Byte) ≠ [0] ∧ ([2] : List Byte) ≠ [1] ∧
      (stored ⟨0x01, 0, 0, [0]⟩).govern 0 = none ∧ MayTake win 0 ∧
      win.govern 0 = some ⟨true, 0, 0, .port 0, allRights⟩ ∧
    let busy := inHand (.status (.port 0) allRights) (stored ⟨0x0E, 0, 0, []⟩)
    ¬MayTake busy 0 ∧ (busy.link 0).ingress ≠ [] ∧ MayTake (withLink upLink) 0 ∧ ((withLink upLink).link 0).ingress = [] ∧
      ({ upLink with control := List.replicate 7 c } : Link).freePlaces = 1 := by
  decide +kernel

theorem test_witness_WindowsGovernByLowestMatch :
    let w : Window := ⟨true, 0x1000, 0x000F, .port 0, allRights⟩
    let s : State := { State.reset with windows := State.reset.windows.set 15 w }
    let d : State := { State.reset with windows := State.reset.windows.set 16 w }
    w.base &&& w.mask = 0 ∧ w.matches 0x1000 = true ∧ w.matches 0x100F = true ∧ w.matches 0x1010 = false ∧
      s.windows[15].matches 0x1000 = true ∧
      (∀ j : WindowId, j < 15 → s.windows[j.val].matches 0x1000 = false) ∧
      (∀ j : WindowId, j.val < 16 → d.windows[j.val].matches 0x1000 = false) ∧ d.windows[16].enabled = true ∧
      State.reset.windows[16].enabled = false := by
  decide +kernel

theorem test_witness_NoticesMergeAndMove :
    let n : Notice := ⟨.credit 1, .port 0, 7⟩
    let c : ControlFrame := ⟨⟨0x81, 1, 2, [0, 0, 0]⟩, none⟩
    let s (m : Nat) := withLink { upLink with notices := [n], control := List.replicate m c }
    (∃ q ∈ [(⟨.suspended, .port 0, 1⟩ : Notice)], q.resource = .port 0 ∧ q.body = .suspended) ∧
      (¬∃ q ∈ [n], q.resource = .port 0 ∧ q.body = .suspended) ∧ n ∈ [n] ∧
      (∀ q ∈ [n], q.resource = .port 0 → q.body.rank = 7 → q = n) ∧
      (∀ q ∈ [n, ⟨.granted, .port 1, 7⟩], q.resource = .port 1 → q.body.rank ≠ 7) ∧
      (NoticeBody.dropped .disabled).rank = 2 ∧ NoticeBody.released.rank = 3 ∧ NoticeBody.granted.rank = 4 ∧
      (NoticeBody.portState .idle).rank = 8 ∧
      (s 6).inReset = false ∧ ((s 6).link 0).notices = [n] ∧ ((s 6).link 0).up = true ∧ ((s 6).link 0).hand = none ∧
      ((s 6).link 0).control.length = 6 ∧ ((s 7).link 0).control.length = 7 ∧ ((s 7).link 0).notices = [n] ∧
    let two := withLink { upLink with notices := [⟨.credit 1, .port 1, 7⟩, n, ⟨.portState .closing, .port 0, 0⟩], control := [c] }
    ((two.prepared 0 (some (.port 0))).link 0).notices = [⟨.credit 1, .port 1, 7⟩] ∧
      ((two.prepared 0 (some (.port 0))).link 0).control =
        [c, ⟨⟨0x82, 7, 0x0000, [7, 0, 1]⟩, none⟩, ⟨⟨0x82, 0, 0x0000, [8, 0, 5]⟩, none⟩] ∧
      Notice.frame ⟨.revoked .disabled, .zone 31, 9⟩ = ⟨0x82, 9, 0x003F, [1, 0x3F, 6]⟩ ∧
      Notice.frame ⟨.dropped .idle, .port 5, 9⟩ = ⟨0x82, 9, 0x0005, [2, 5, 1]⟩ ∧
      Notice.frame ⟨.granted, .zone 0, 9⟩ = ⟨0x82, 9, 0x0020, [4, 0x20, 0]⟩ ∧
      Notice.frame ⟨.released, .zone 0, 9⟩ = ⟨0x82, 9, 0x0020, [3, 0x20, 1]⟩ ∧
    ((withLink (Link.reset true)).link 0).up = false ∧
      (State.enterNotice (withLink (Link.reset true)) 0 n) = withLink (Link.reset true) ∧
      ((State.enterNotice (withLink upLink) 0 n).link 0).notices = [n] := by
  decide +kernel

/-- A queue of 7 reports, and full queues of the three cases. -/
theorem test_witness_TouchQueueTakesReports :
    let d : Report := ⟨some 0, 0, .down, 1, 0, 0⟩
    let m : Report := ⟨some 0, 0, .move, 1, 0, 0⟩
    let l (q : List Report) := { upLink with touch := q }
    (Link.reset true).up = false ∧ (l (List.replicate 7 d)).up = true ∧ (l (List.replicate 7 d)).touch.length = 7 ∧
      (l (List.replicate 3 d ++ m :: List.replicate 4 d)).touch.length = 8 ∧
      (∀ y ∈ List.replicate 4 d, ¬(y.phase = .move ∧ y.panel = m.panel ∧ y.contact = m.contact)) ∧
      (∀ x ∈ List.replicate 3 d, x.phase ≠ .move) ∧ d.phase ≠ .move ∧
      (l (List.replicate 8 d)).touch.length = 8 ∧ (∀ y ∈ (l (List.replicate 8 d)).touch, y.phase ≠ .move) := by
  decide +kernel

theorem test_witness_RequestsAreCheckedInOrder :
    let panel (q : Request) := inHand q (withPort (panelPort .idle) .free)
    let port (q : Request) := inHand q (withPort jobPort held)
    Handles (port (.claim (.port 0) Rights.clear true)) 0 ⟨5, 0x1234, .claim (.port 0) Rights.clear true⟩ (some (.port 0)) ∧
      Handles (panel (.claim (.port 0) allRights true)) 0 ⟨5, 0x1234, .claim (.port 0) allRights true⟩ (some (.port 0)) ∧
      Handles (panel (.release (.port 0) allRights)) 0 ⟨5, 0x1234, .release (.port 0) allRights⟩ (some (.port 0)) ∧
      Handles (port (.data (.port 0) allRights [])) 0 ⟨5, 0x1234, .data (.port 0) allRights []⟩ (some (.port 0)) ∧
      Handles (port (.data (.port 0) allRights (List.replicate 513 0))) 0
        ⟨5, 0x1234, .data (.port 0) allRights (List.replicate 513 0)⟩ (some (.port 0)) ∧
      Handles (port (.data (.zone 31) allRights [])) 0 ⟨5, 0x1234, .data (.zone 31) allRights []⟩ (some (.zone 31)) ∧
      Handles (port (.status (.zone 31) Rights.clear)) 0 ⟨5, 0x1234, .status (.zone 31) Rights.clear⟩ (some (.zone 31)) ∧
      (Rights.clear.of ((port (.status (.zone 31) Rights.clear)).link 0).profile.cls).status = false ∧
      (allRights.of ((port (.status (.zone 31) allRights)).link 0).profile.cls).data = true ∧
      ((panel (.release (.port 0) allRights)).port 0).profile.kind = .panel ∧
      ((port (.data (.port 0) allRights [])).port 0).profile.kind = .job ∧
      Handles (commanded .restart [0x0F, 0]) 0 ⟨5, 0x1234, .mgmt .restart [0x0F, 0]⟩
        (MgmtCmd.names .restart [0x0F, 0]) ∧ ([0x0F, 0] : List Byte).length ≠ MgmtCmd.length .restart ∧
      Handles (commanded .loadZone [0x02, 31]) 0 ⟨5, 0x1234, .mgmt .loadZone [0x02, 31]⟩ (some (.zone 31)) ∧
      MgmtCmd.names .loadZone [0x02, 31] = some (.zone 31) ∧
    let crowded (n : Nat) : Link := { upLink with
      control := List.replicate n ⟨⟨0x81, 1, 2, [0, 0, 0]⟩, none⟩, notices := [⟨.released, .port 0, 0⟩] }
    let answered (a : Result) := ((withLink upLink).answer 0 ⟨5, 0x1234, .mgmt .restart [15]⟩ (Answer.plain a 0xFF 0)).link 0
    (crowded 7).roomFor none = true ∧ (crowded 8).roomFor none = false ∧ (crowded 6).roomFor (some (.port 0)) = true ∧
      (crowded 7).roomFor (some (.port 0)) = false ∧ (crowded 7).roomFor (some (.port 1)) = true ∧
      (answered .closing).counters.refused = 0 ∧ (answered .busy).counters.refused = 1 ∧
      (answered .busy).control = [⟨⟨0x81, 5, 0x1234, [0x10, 0xFF, 0]⟩, none⟩] ∧
    let stuck (q : Request) := (inHand q (withLink upLink)).setLink 0 { crowded 8 with hand := some ⟨5, 0x1234, q⟩ }
    ((stuck (.status (.port 0) allRights)).link 0).hand = some ⟨5, 0x1234, .status (.port 0) allRights⟩ ∧
      ((stuck (.status (.port 0) allRights)).link 0).roomFor (some (.port 0)) = false ∧
      ((stuck (.mgmt .readLink [9, 0])).link 0).roomFor (MgmtCmd.names .readLink [9, 0]) = false := by
  decide +kernel

/-- Three and four waits of a link, 23 and 24 of the part. -/
theorem test_witness_ClaimIsJudgedByTheTable :
    let q : Request := .claim (.port 0) allRights true
    let h : Hand := ⟨5, 0x1234, q⟩
    let r : Resource := .port 0
    let at' (p : Port) (l : Lease) (ws : List Wait) := inHand q ((withPort p l).setWaits ws)
    let other : Lease := .held ⟨1, .staff, 3⟩
    let mine (n : Nat) : List Wait := List.replicate n ⟨0, .zone 0, .pub, 1⟩
    let theirs (n : Nat) : List Wait := List.replicate n ⟨1, .zone 1, .pub, 1⟩
    Handles (at' jobPort held []) 0 h (some r) ∧ (allRights.of ((at' jobPort held []).link 0).profile.cls).claim = true ∧
      (at' jobPort held []).isPanel r = false ∧ (at' jobPort held []).holder r = some 0 ∧
      (at' jobPort other [⟨0, r, .pub, 1⟩]).waitsOn 0 r = true ∧ (at' jobPort other []).holder r ≠ some 0 ∧
      (at' jobPort other []).waitsOn 0 r = false ∧ (at' Port.reset .free []).outOfService r = true ∧
      (at' (readyPort .idle) .free []).outOfService r = false ∧ (at' (readyPort .idle) .free []).grantable r = true ∧
      (at' jobPort other []).grantable r = false ∧ (at' jobPort other []).outOfService r = false ∧
      ((at' jobPort other (mine 4)).waits.filter (fun w => w.link == 0)).length = 4 ∧
      ((at' jobPort other (mine 3 ++ theirs 20)).waits.filter (fun w => w.link == 0)).length = 3 ∧
      (at' jobPort other (mine 3 ++ theirs 20)).waits.length = 23 ∧
      (at' jobPort other (mine 3 ++ theirs 21)).waits.length = 24 ∧
      (at' jobPort other (mine 3 ++ theirs 21)).waitsOn 0 r = false ∧
      (at' { Port.reset with state := .offline } .free []).isOffline r = true ∧
      (at' { Port.reset with state := .offline } .free []).grantable r = false ∧
      (at' jobPort other []).isOffline r = false ∧
      [(⟨1, r, .service, 1⟩ : Wait), ⟨2, r, .pub, 2⟩].Pairwise (fun a b => a.order ≤ b.order) ∧
    let pool := at' jobPort other [⟨1, r, .service, 1⟩, ⟨2, .zone 0, .pub, 2⟩, ⟨0, r, .pub, 3⟩]
    pool.queueOf r = [⟨1, r, .service, 1⟩] ++ ⟨0, r, .pub, 3⟩ :: [] ∧ pool.position 0 r = 2 ∧ pool.position 1 r = 1 ∧
      pool.waitsOn 2 r = false ∧ pool.position 2 r = 0 ∧
      State.holder (at' { jobPort with state := .closing } releasing []) r = some 0 := by
  decide +kernel

theorem test_witness_GrantOpensThePort :
    let s := withPort (readyPort .idle) .free
    let t := withPort { readyPort .idle with i0 := .handed [1] 3 false, i1 := .handed [2] 3 false } .free
    (s.port 0).i0 = .free ∧ (s.port 0).i1 = .free ∧ (s.port 0).fillOrder = [] ∧ (s.port 0).idleTimer = none ∧
      (s.port 0).profile.idleLimit ≠ 0 ∧ (1 : PortId) ≠ 0 ∧ Resource.zone 0 ≠ .port 0 ∧
      ((t.grant (.port 0) ⟨0, .pub, 7⟩).port 0).filling = none ∧
    let gone : InBuf := .handed [1] 3 false
    let opened (fl : Flow) (a b : InBuf) (slot : Option FlowCode) : Port := State.port
      ((withPort { readyPort .idle with i0 := a, i1 := b, slot := slot, profile := { PortProfile.reset with flow := fl } }
        .free).grant (.port 0) ⟨0, .pub, 7⟩) 0
    gone = .handed [1] 3 false ∧ (opened .none gone .free none).i1 = .filling [] ∧
      (opened .none gone .free none).i0 = gone ∧ (opened .none gone .free none).paused = false ∧
      (opened .lines gone gone none).filling = none ∧ (opened .lines gone gone none).paused = true ∧
      (opened .lines gone gone none).hold = true ∧ (opened .codes gone gone none).slot = some .pause ∧
      (opened .codes gone gone (some .resume)).slot = none ∧ (opened .none gone gone none).paused = true ∧
      (opened .none gone gone none).hold = false ∧
      (readyPort .idle).paused = false ∧
    let w : Wait := ⟨1, .zone 31, .pub, 9⟩
    let z : Zone := ⟨true, 0, 0, 0x7FF, 0, 0xFFF⟩
    let q := ((withLink upLink).setZone 31 z).setWaits [w]
    q.grantable (.zone 31) = true ∧ q.queueOf (.zone 31) = [w] ∧ q.grantable (.port 0) = false ∧
      q.queueOf (.zone 30) = [] ∧ (q.grantHead (.zone 31)).lease (.zone 31) = .held ⟨1, .pub, 9⟩ := by
  decide +kernel

theorem test_witness_ReleaseIsJudgedByTheTable :
    let q (r : Resource) : Request := .release r allRights
    let at' (p : Port) (l : Lease) := inHand (q (.port 0)) (withPort p l)
    let z := inHand (q (.zone 31)) ((withLink upLink).setLease (.zone 31) held)
    let staged : Port := { jobPort with o0 := some ⟨[1], 0⟩, fillOrder := [.b0], credit := 1 }
    let waiting := (at' (readyPort .settling) .free).setWaits [⟨0, .port 0, .pub, 1⟩]
    Handles (at' jobPort held) 0 ⟨5, 0x1234, q (.port 0)⟩ (some (.port 0)) ∧
      (allRights.of ((at' jobPort held).link 0).profile.cls).claim = true ∧ (at' jobPort held).isPanel (.port 0) = false ∧
      (at' { staged with state := .closing } releasing).lease (.port 0) = releasing ∧
      Handles z 0 ⟨5, 0x1234, q (.zone 31)⟩ (some (.zone 31)) ∧ z.lease (.zone 31) = held ∧
      (at' { jobPort with state := .suspended, remembered := some .opened } held).lease (.port 0) = held ∧
      ((at' jobPort held).port 0).fillOrder = [] ∧ ((at' staged held).port 0).fillOrder ≠ [] ∧
      ((at' staged held).port 0).state ≠ .suspended ∧ Handles waiting 0 ⟨5, 0x1234, q (.port 0)⟩ (some (.port 0)) ∧
      waiting.holder (.port 0) ≠ some 0 ∧ waiting.waitsOn 0 (.port 0) = true ∧
      (at' (readyPort .idle) .free).waitsOn 0 (.port 0) = false ∧ ((at' jobPort held).port 0).profile.turnaround ≠ 0 ∧
      ({ jobPort with i0 := .filling [9] } : Port).filling = some (.b0, [9]) ∧ jobPort.filling = some (.b0, []) ∧
    let quick (p : Port) : Port := { p with profile := { p.profile with turnaround := 0 } }
    let next := ((withPort (quick jobPort) .free).setWaits [⟨0, .port 0, .staff, 1⟩])
    ((withPort (quick jobPort) .free).port 0).profile.turnaround = 0 ∧
      (withPort (quick jobPort) .free).queueOf (.port 0) = [] ∧
      ((withPort (quick (panelPort .idle)) .free).port 0).profile.kind = .panel ∧
      (withPort (quick jobPort) held).lease (.port 0) ≠ .free ∧
      next.queueOf (.port 0) = [⟨0, .port 0, .staff, 1⟩] ∧ (next.port 0).profile.kind = .job ∧
      next.lease (.port 0) = .free ∧ (next.port 0).profile.turnaround = 0 := by
  decide +kernel

/-- Payloads of 1 and 512 bytes, credits 0 and 1. -/
theorem test_witness_DataIsStagedAgainstCredit :
    let one : Request := .data (.port 0) allRights [1]
    let most : Request := .data (.port 0) allRights (List.replicate 512 0)
    let at' (q : Request) (n : Nat) (l : Lease) := inHand q (withPort { jobPort with credit := n } l)
    Handles (at' one 1 held) 0 ⟨5, 0x1234, one⟩ (some (.port 0)) ∧
      Handles (at' most 0 held) 0 ⟨5, 0x1234, most⟩ (some (.port 0)) ∧
      (allRights.of ((at' one 1 held).link 0).profile.cls).data = true ∧ ((at' one 1 held).port 0).profile.kind = .job ∧
      ((at' most 0 held).port 0).credit = 0 ∧ 1 ≤ ((at' one 1 held).port 0).credit ∧
      (at' one 1 .free).holder (.port 0) ≠ some 0 ∧ (at' one 1 releasing).lease (.port 0) = releasing ∧
      jobPort.o0 = none ∧ ({ jobPort with o0 := some ⟨[1], 0⟩ } : Port).o0 ≠ none := by
  decide +kernel

/-- A record for entries 0 and 16, and entry 17. -/
theorem test_witness_LoadWindowReplacesTheRecord :
    let good : List Byte := [1, 0x10, 0, 0, 0x0F, 1, 31, 7, 7, 7]
    let bad : List Byte := [1, 0x10, 0x01, 0, 0x0F, 1, 31, 7, 7, 7]
    Handles (commanded .loadWindow (1 :: 17 :: good)) 0 ⟨5, 0x1234, .mgmt .loadWindow (1 :: 17 :: good)⟩ none ∧
      Handles (commanded .loadWindow (1 :: 0 :: bad)) 0 ⟨5, 0x1234, .mgmt .loadWindow (1 :: 0 :: bad)⟩ none ∧
      good.length = 10 ∧ 16 < (17 : Byte).toNat ∧ Window.ofBytes 0 bad = none ∧
      (Window.ofBytes 16 bad).isSome = true ∧
      Window.ofBytes 0 good = some ⟨true, 0x1000, 0x000F, .zone 31, allRights⟩ ∧
    let mixed : List Byte := [0, 0x12, 0x34, 0, 0, 0, 5, 1, 2, 4]
    Window.ofBytes 15 mixed = some ⟨false, 0x1234, 0, .port 5, ⟨true, false, false⟩, ⟨false, true, false⟩,
      ⟨false, false, true⟩⟩ := by
  decide +kernel

/-- Zones 31 and 32; coordinates 4095 and 4096. -/
theorem test_witness_LoadZoneReplacesTheRecord :
    let rec' (en hi : Byte) : List Byte := [en, 5, 0, 0, hi, 0xFF, 0, 0, 0, 0]
    let s (b : List Byte) := commanded .loadZone (2 :: b)
    Handles (s (32 :: rec' 1 0x0F)) 0 ⟨5, 0x1234, .mgmt .loadZone (2 :: 32 :: rec' 1 0x0F)⟩ none ∧
      Handles (s (31 :: rec' 1 0x0F)) 0 ⟨5, 0x1234, .mgmt .loadZone (2 :: 31 :: rec' 1 0x0F)⟩ (some (.zone 31)) ∧
      (rec' 1 0x0F).length = 10 ∧ Zone.ofBytes (rec' 1 0x0F) = some ⟨true, 5, 0, 0xFFF, 0, 0⟩ ∧
      Zone.ofBytes (rec' 0 0x0F) = some ⟨false, 5, 0, 0xFFF, 0, 0⟩ ∧ Zone.ofBytes (rec' 1 0x10) = none ∧
      Zone.ofBytes (rec' 2 0x0F) = none ∧ 4095 < (wordOf 0x10 0xFF).toNat ∧ (wordOf 0x0F 0xFF).toNat = 4095 ∧
      (s (31 :: rec' 1 0x0F)).lease (.zone 31) = .free ∧
      ((s (31 :: rec' 1 0x0F)).setLease (.zone 31) held).lease (.zone 31) ≠ .free ∧
    let w : Wait := ⟨1, .zone 31, .pub, 9⟩
    let q := ((withLink upLink).setLink 1 upLink).setWaits [w, ⟨0, .port 0, .pub, 8⟩]
    (q.link 1).up = true ∧ (∀ v ∈ q.waits, v.link = w.link → v.resource = w.resource → v = w) ∧
      (q.dropWaits (.zone 31)).waits = [⟨0, .port 0, .pub, 8⟩] ∧
      ((q.dropWaits (.zone 31)).link 1).notices = [⟨.dropped .disabled, .zone 31, 9⟩] := by
  decide +kernel

/-- Ports 5 and 6; an inbound frame size of 512 and of 513. -/
theorem test_witness_LoadPortReplacesTheProfile :
    let rec' (lo : Byte) : List Byte := [0, 7, 2, 2, 2, 0x13, 0x11, 1, 0, 0, 0, 0, 2, lo, 0, 8, 1, 0xFF]
    let s (b : List Byte) := commanded .loadPort (3 :: b)
    Handles (s (6 :: rec' 0)) 0 ⟨5, 0x1234, .mgmt .loadPort (3 :: 6 :: rec' 0)⟩ none ∧
      Handles (s (5 :: rec' 0)) 0 ⟨5, 0x1234, .mgmt .loadPort (3 :: 5 :: rec' 0)⟩ (some (.port 5)) ∧
      (rec' 0).length = 18 ∧ (PortProfile.ofBytes (rec' 0)).isSome = true ∧ PortProfile.ofBytes (rec' 1) = none ∧
      (wordOf 2 0).toNat = 512 ∧ (wordOf 0 8).toNat = 8 ∧
      ((s (5 :: rec' 0)).port 5).state = .disabled ∧ (readyPort .idle).state ≠ .disabled := by
  decide +kernel

/-- Marks 256 and 0, and marks 256 and 1; links 7 and 8. -/
theorem test_witness_LoadLinkTakesEffect :
    let rec' (en lo : Byte) : List Byte := [en, 2, 1, 3, 1, 0, 0, lo, 4, 0]
    let s (b : List Byte) := commanded .loadLink (4 :: b)
    let off : LinkProfile := ⟨false, .service, true, .r921600, 256, 0, 1024⟩
    Handles (s (8 :: rec' 1 0)) 0 ⟨5, 0x1234, .mgmt .loadLink (4 :: 8 :: rec' 1 0)⟩ none ∧
      (rec' 1 0).length = 10 ∧ LinkProfile.ofBytes (rec' 1 1) = none ∧ LinkProfile.ofBytes (rec' 0 0) = some off ∧
      (wordOf 1 0).toNat = 256 ∧ (wordOf 4 0).toNat = 1024 ∧
      LinkProfile.ofBytes (rec' 1 0) = some { off with enabled := true } ∧
      (∀ i : LinkId, i ≠ 0 → ¬(((s (0 :: rec' 0 0)).link i).profile.enabled = true ∧
        ((s (0 :: rec' 0 0)).link i).profile.mgmt = true)) ∧
      ((s (7 :: rec' 0 0)).link 0).profile.enabled = true ∧ ((s (7 :: rec' 0 0)).link 0).profile.mgmt = true ∧
      ((s (7 :: rec' 0 0)).link 7).profile.enabled = true ∧ ((s (7 :: rec' 0 0)).link 7).up = false ∧
      (((s (7 :: rec' 0 0)).setLink 7 upLink).link 7).up = true ∧
      (((s (7 :: rec' 1 0)).setLink 7 { upLink with profile := off }).link 7).profile.enabled = false ∧
      upLink.rx = .hunt ∧ off.rate ≠ upLink.profile.rate ∧ upLink.selfDisable = none ∧ upLink.present = true ∧
      (Link.reset true).present = false ∧ ({ upLink with selfDisable := some (.running 0) } : Link).selfDisable ≠ none ∧
    let part := (withPort jobPort held).setLink 0
      { upLink with present := false, control := [⟨⟨0x81, 1, 2, [0, 0, 0]⟩, none⟩], dataQ := [⟨1, .b0, 1⟩] }
    let theirs := (part.setPort 1 { jobPort with i0 := .handed [1] 0 false }).setLease (.port 1) (.held ⟨1, .pub, 7⟩)
    (theirs.link 0).present = false ∧ theirs.holder (.port 1) = some 1 ∧ (theirs.tearDown 0).holder (.port 0) = none ∧
      (theirs.tearDown 0).lease (.port 1) = .held ⟨1, .pub, 7⟩ ∧ ((theirs.tearDown 0).port 1).i0 = .filling [] ∧
      ((theirs.tearDown 0).link 0).control = [] ∧ LineRate.code .r115200 = 7 := by
  decide +kernel

theorem test_witness_SetReportGivesAFullAccount :
    let s (b : Byte) := commanded .setReport [5, b]
    Handles (s 8) 0 ⟨5, 0x1234, .mgmt .setReport [5, 8]⟩ none ∧ 7 < (8 : Byte).toNat ∧ (8 : Byte) ≠ 0xFF ∧
      Handles (s 0xFF) 0 ⟨5, 0x1234, .mgmt .setReport [5, 0xFF]⟩ none ∧
      Handles (s 7) 0 ⟨5, 0x1234, .mgmt .setReport [5, 7]⟩ none ∧ (7 : Byte).toNat = (7 : LinkId).val ∧
      ((s 7).link 7).up = false ∧ ((s 7).link 0).up = true ∧ (s 7).reportLink ≠ some 7 ∧
      ({ s 7 with reportLink := some 0 } : State).reportLink = some 0 ∧
      (({ s 7 with reportLink := some 0 } : State).setLink 0
        { upLink with notices := [⟨.released, .port 0, 1⟩] } |>.setReportLink none |>.link 0).notices =
        [⟨.released, .port 0, 1⟩] ∧
    let part (l : Link) (k : Option LinkId) : State := { withLink l with reportLink := k }
    (part upLink none).reportLink = none ∧ (part (Link.reset true) (some 0)).reportLink = some 0 ∧
      ((part (Link.reset true) (some 0)).link 0).up = false ∧ (part upLink (some 0)).reportLink = some 0 ∧
      ((part upLink (some 0)).link 0).up = true ∧
      (((part upLink (some 0)).setPortState 5 .offline).link 0).notices = [⟨.portState .offline, .port 5, 0⟩] := by
  decide +kernel

theorem test_witness_ReadsReturnTheRecord :
    let s (c : MgmtCmd) (b : Byte) := commanded c [6, b]
    let h (c : MgmtCmd) (b : Byte) : Hand := ⟨5, 0x1234, .mgmt c [6, b]⟩
    Handles (s .readWindow 16) 0 (h .readWindow 16) none ∧ Handles (s .readWindow 17) 0 (h .readWindow 17) none ∧
      Handles (s .readZone 31) 0 (h .readZone 31) (some (.zone 31)) ∧ Handles (s .readZone 32) 0 (h .readZone 32) none ∧
      Handles (s .readPort 5) 0 (h .readPort 5) (some (.port 5)) ∧ Handles (s .readPort 6) 0 (h .readPort 6) none ∧
      Handles (s .readLink 7) 0 (h .readLink 7) none ∧ Handles (s .readLink 8) 0 (h .readLink 8) none ∧
      Handles (s .readLease 0x3F) 0 (h .readLease 0x3F) (some (.zone 31)) ∧ (Resource.zone 31).code = 0x3F ∧
      Handles (s .readLease 6) 0 (h .readLease 6) none ∧ Resource.ofCode 6 = none ∧ Resource.ofCode 0x1F = none ∧
      Resource.ofCode 0x40 = none ∧ (Resource.port 5).code = 5 ∧
    let q (r : Resource) : Request := .status r allRights
    Handles (inHand (q (.port 0)) (withPort jobPort held)) 0 ⟨5, 0x1234, q (.port 0)⟩ (some (.port 0)) ∧
      Handles (inHand (q (.zone 31)) (withLink upLink)) 0 ⟨5, 0x1234, q (.zone 31)⟩ (some (.zone 31)) ∧
      (allRights.of ((inHand (q (.zone 31)) (withLink upLink)).link 0).profile.cls).status = true ∧
    timerBytes (some 16777215) = [255, 255, 255] ∧ timerBytes (some 255000) = [3, 0xE4, 0x18] ∧
      PortState.code .settling = 6 := by
  decide +kernel

theorem test_witness_ReadCountsReturnsAndClears :
    let s (kind i f : Byte) := commanded .readCounts [0x0B, kind, i, f]
    let h (kind i f : Byte) : Hand := ⟨5, 0x1234, .mgmt .readCounts [0x0B, kind, i, f]⟩
    Handles (s 2 0 0) 0 (h 2 0 0) none ∧ Handles (s 0 8 0) 0 (h 0 8 0) none ∧ Handles (s 0 7 2) 0 (h 0 7 2) none ∧
      Handles (s 1 6 0) 0 (h 1 6 0) none ∧ Handles (s 1 5 2) 0 (h 1 5 2) (some (.port 5)) ∧
      Handles (s 1 5 0) 0 (h 1 5 0) (some (.port 5)) ∧ Handles (s 1 0 1) 0 (h 1 0 1) (some (.port 0)) ∧
      Handles (s 0 7 0) 0 (h 0 7 0) none ∧ Handles (s 0 0 1) 0 (h 0 0 1) none ∧
    bump 0xFFFE = 0xFFFF ∧ bump 0xFFFF = 0xFFFF ∧
      LinkCounters.bytes ⟨1, 2, 3, 4, 5, 6, 7, 0x0108⟩ = [0, 1, 0, 2, 0, 3, 0, 4, 0, 5, 0, 6, 0, 7, 1, 8] := by
  decide +kernel

theorem test_witness_RevokeEndsAHeldLease :
    let s (b : Byte) := commanded .revoke [0x0C, b]
    let h (b : Byte) : Hand := ⟨5, 0x1234, .mgmt .revoke [0x0C, b]⟩
    Handles (s 6) 0 (h 6) none ∧ Resource.ofCode 6 = none ∧ Handles (s 5) 0 (h 5) (some (.port 5)) ∧
      (s 5).lease (.port 5) = .free ∧ Handles ((s 0x20).setLease (.zone 0) held) 0 (h 0x20) (some (.zone 0)) ∧
      (Resource.zone 0).code = 0x20 ∧ ((s 0x20).setLease (.zone 0) held).lease (.zone 0) ≠ .free ∧
    Resource.ofCode 5 = some (.port 5) ∧ Resource.ofCode 6 = none ∧ Resource.ofCode 0x20 = some (.zone 0) ∧
      Resource.ofCode 0x3F = some (.zone 31) ∧ Resource.ofCode 0x40 = none := by
  decide +kernel

theorem test_witness_EnableAndDisablePort :
    let s (c : MgmtCmd) (b : Byte) (p : Port) := (commanded c [0x0D, b]).setPort 5 p
    let h (c : MgmtCmd) (b : Byte) : Hand := ⟨5, 0x1234, .mgmt c [0x0D, b]⟩
    Handles (s .enablePort 6 Port.reset) 0 (h .enablePort 6) none ∧
      Handles (s .enablePort 5 (readyPort .idle)) 0 (h .enablePort 5) (some (.port 5)) ∧
      ((s .enablePort 5 (readyPort .idle)).port 5).state ≠ .disabled ∧
      (readyPort .disabled).isReady = true ∧ (s .enablePort 5 (readyPort .disabled)).queueOf (.port 5) = [] ∧
      Port.reset.isReady = false ∧ Port.reset.state = .disabled ∧ Port.reset.profile.kind = .job ∧
      (panelPort .disabled).profile.kind = .panel ∧
      Handles (s .disablePort 6 Port.reset) 0 (h .disablePort 6) none ∧
      Handles (s .disablePort 5 (panelPort .idle)) 0 (h .disablePort 5) (some (.port 5)) ∧
      ((s .disablePort 5 (panelPort .idle)).port 5).state = .idle ∧ ((s .disablePort 5 jobPort).port 5).state ≠ .disabled ∧
    let queued := ((withPort jobPort held).setLink 1 upLink).setWaits [⟨1, .port 0, .pub, 9⟩, ⟨2, .port 0, .pub, 8⟩]
    (∀ v ∈ queued.waits, v.link = 1 → v.resource = .port 0 → v = ⟨1, .port 0, .pub, 9⟩) ∧ (queued.link 1).up = true ∧
      (queued.link 2).up = false ∧ (∀ w ∈ queued.waits, w.resource = .port 0 → w.link ≠ 0) ∧
      (queued.disableJob 0).waits = [] ∧ ((queued.disableJob 0).link 1).notices = [⟨.dropped .disabled, .port 0, 9⟩] ∧
      ((queued.disableJob 0).link 2).notices = [] ∧
    (panelPort .offline).state ≠ .idle ∧ (panelPort .idle).state = .idle := by
  decide +kernel

/-- Nine ticks and ten. -/
theorem test_witness_ReadyMovesAJobPort :
    let off : Port := { Port.reset with state := .offline }
    let coming (n : Nat) (p : Port) (l : Lease) := withPort { p with ready := false, readyPin := true, readyTicks := n } l
    let going (p : Port) (l : Lease) := withPort { p with ready := true, readyPin := false, readyTicks := 10 } l
    (coming 10 off .free).inReset = false ∧ ((coming 10 off .free).port 0).profile.kind = .job ∧
      10 ≤ ((coming 10 off .free).port 0).readyTicks ∧ ((coming 10 off .free).port 0).readyPin = true ∧
      ((coming 10 off .free).port 0).ready = false ∧ ((coming 10 off .free).port 0).state = .offline ∧
      ((coming 10 off .free).port 0).fault = false ∧ ((coming 10 { off with fault := true } .free).port 0).fault = true ∧
      ((coming 10 Port.reset .free).port 0).state ≠ .offline ∧
      ((going { readyPort .idle with ready := false } .free).port 0).ready = true ∧
      ((going (readyPort .settling) .free).port 0).state = .settling ∧
      ((going (readyPort .settling) .free).port 0).readyPin = false ∧
      ((going { readyPort .idle with fault := true } .free).port 0).fault = true ∧
      ((going jobPort held).port 0).state.isJob = true ∧ ((going (readyPort .disabled) .free).port 0).state = .disabled ∧
      ((withPort { readyPort .idle with readyTicks := 10 } .free).port 0).ready = true ∧
      ((withPort { readyPort .idle with readyTicks := 10 } .free).port 0).readyPin = true ∧
      ((coming 9 off .free).port 0).readyTicks < 10 ∧ ((coming 9 off .free).port 0).readyPin ≠ false ∧
    let w : Wait := ⟨0, .port 0, .pub, 9⟩
    let queued := (coming 10 off .free).setWaits [w]
    (coming 10 off .free).queueOf (.port 0) = [] ∧ (((coming 10 off .free).enterIdle 0).port 0).state = .idle ∧
      queued.queueOf (.port 0) = [w] ∧ (queued.port 0).profile.kind = .job ∧ queued.lease (.port 0) = .free ∧
      (queued.link 0).up = true ∧ (queued.enterIdle 0).lease (.port 0) = .held ⟨0, .pub, 9⟩ ∧
      (queued.enterIdle 0).waits = [] ∧ ((queued.enterIdle 0).port 0).state = .opened ∧
      ((queued.enterIdle 0).link 0).notices = [⟨.granted, .port 0, 9⟩] := by
  decide +kernel

/-- Nine ticks and ten; a SUSPENDED notice still pending and none. -/
theorem test_witness_FaultSuspendsAndResumes :
    let coming (n : Nat) (p : Port) (l : Lease) := withPort { p with fault := false, faultPin := true, faultTicks := n } l
    let going (p : Port) (l : Lease) := withPort { p with fault := true, faultPin := false, faultTicks := 10 } l
    let quick : Port := { jobPort with profile := { PortProfile.reset with faultGrace := 0 } }
    let suspended (st : PortState) : Port :=
      { jobPort with state := .suspended, remembered := some st, graceTimer := some 1 }
    let told := (going (suspended .opened) held).setLink 0 { upLink with notices := [⟨.suspended, .port 0, 7⟩] }
    (coming 10 jobPort held).inReset = false ∧ ((coming 10 jobPort held).port 0).profile.kind = .job ∧
      10 ≤ ((coming 10 jobPort held).port 0).faultTicks ∧ ((coming 10 jobPort held).port 0).faultPin = true ∧
      ((coming 10 jobPort held).port 0).fault = false ∧ ((coming 10 jobPort held).port 0).ready = true ∧
      ((coming 10 jobPort held).port 0).state = .opened ∧ ((coming 10 jobPort held).port 0).profile.faultGrace ≠ 0 ∧
      ((coming 10 quick held).port 0).profile.faultGrace = 0 ∧
      ((coming 10 (readyPort .idle) .free).port 0).state = .idle ∧
      ((coming 10 (readyPort .disabled) .free).port 0).state = .disabled ∧
      ((coming 10 { readyPort .offline with ready := false } .free).port 0).ready = false ∧
      ((coming 10 (readyPort .offline) .free).port 0).state = .offline ∧
      ((going (readyPort .offline) .free).port 0).fault = true ∧ ((going (readyPort .offline) .free).port 0).ready = true ∧
      ((going (readyPort .offline) .free).port 0).faultPin = false ∧
      ((going (readyPort .settling) .free).port 0).state ≠ .offline ∧
      ((going (suspended .opened) held).port 0).state = .suspended ∧
      ((going (suspended .opened) held).port 0).remembered = some .opened ∧
      ((going (suspended .opened) held).link 0).notices = [] ∧
      ((going (suspended .opened) held).lease (.port 0)).holding = some ⟨0, .pub, 7⟩ ∧
      ((going (suspended .opened) held).link 0).up = true ∧
      (∃ q ∈ (told.link 0).notices, q.resource = .port 0 ∧ q.body = .suspended) ∧ (told.link 0).up = true ∧
      ((going { suspended .closing with fillOrder := [.b0] } releasing).port 0).fillOrder ≠ [] ∧
      ((going (suspended .closing) releasing).port 0).remembered = some .closing ∧
      ((going (suspended .closing) releasing).port 0).fillOrder = [] ∧
      ((going (suspended .closing) releasing).port 0).profile.turnaround ≠ 0 ∧
      ((withPort { readyPort .idle with faultTicks := 10 } .free).port 0).faultPin = false ∧
      ((coming 9 jobPort held).port 0).faultTicks < 10 ∧ ((coming 9 jobPort held).port 0).faultPin ≠ false := by
  decide +kernel

theorem test_witness_PanelPortFollowsItsLines :
    let ready (p : Port) : State := withPort { p with ready := false, readyPin := true, readyTicks := 10 } .free
    let away (p : Port) : State := withPort { p with ready := true, readyPin := false, readyTicks := 10 } .free
    let fault (p : Port) : State := withPort { p with fault := false, faultPin := true, faultTicks := 10 } .free
    let mended (p : Port) : State := withPort { p with fault := true, faultPin := false, faultTicks := 10 } .free
    let s := ((away (panelPort .idle)).setLease (.zone 31) held).setContact 0 9 ⟨.captured 31, 1, 2⟩
    (ready (panelPort .offline)).inReset = false ∧ ((ready (panelPort .offline)).port 0).profile.kind = .panel ∧
      ((ready (panelPort .offline)).port 0).ready ≠ true ∧ ((ready (panelPort .offline)).port 0).readyPin = true ∧
      10 ≤ ((ready (panelPort .offline)).port 0).readyTicks ∧ ((ready (panelPort .offline)).port 0).fault = false ∧
      ((ready (panelPort .offline)).port 0).state = .offline ∧
      ((away (panelPort .idle)).port 0).isReady = true ∧ ((away (panelPort .idle)).port 0).readyPin = false ∧
      ((away (panelPort .idle)).port 0).state = .idle ∧
      ((fault (panelPort .idle)).port 0).isReady = true ∧ ((fault (panelPort .idle)).port 0).faultPin = true ∧
      10 ≤ ((fault (panelPort .idle)).port 0).faultTicks ∧ ((fault (panelPort .disabled)).port 0).state = .disabled ∧
      ((mended (panelPort .offline)).port 0).fault ≠ false ∧ ((mended (panelPort .offline)).port 0).ready = true ∧
      ((ready { panelPort .offline with fault := true }).port 0).fault = true ∧
      s.holder (.zone 31) = some 0 ∧ (s.contact 0 9).state = .captured 31 ∧
      s.upsOfPanel 0 0 = [⟨some 31, 0, .up, 9, 1, 2⟩] ∧ s.upsOfPanel 0 1 = [] ∧ (1 : PortId) ≠ 0 := by
  decide +kernel

/-- A buffer of an earlier job, and one of this job whose entry waits behind another, is sent, or waits while a control
frame is sent. -/
theorem test_witness_RevokeCutsTheJob :
    let old : Port := { jobPort with i0 := .handed [1] 0 false, i1 := .handed [2] 0 true }
    let f : Frame := ⟨0x83, 0, 0, [2]⟩
    let s (src : TxSource) (q : List DataEntry) :=
      (withPort old held).setLink 0 { upLink with tx := .sending f f.wire src, dataQ := q }
    let quick : Port := { jobPort with profile := { PortProfile.reset with turnaround := 0 } }
    (withPort Port.reset .free).lease (.port 0) = .free ∧
      ((withPort jobPort held).lease (.port 0)).holding = some ⟨0, .pub, 7⟩ ∧
      ((withPort jobPort held).port 0).profile.turnaround ≠ 0 ∧ ((withPort jobPort held).link 0).up = true ∧
      ((withPort quick held).port 0).profile.turnaround = 0 ∧ ((withPort quick held).port 0).isReady = true ∧
      ((withPort { jobPort with fault := true } held).port 0).isReady = false ∧
      (jobPort.inb .b0) = .filling [] ∧ (old.inb .b0) = .handed [1] 0 false ∧ (old.inb .b1) = .handed [2] 0 true ∧
      ((s .data [⟨0, .b1, 1⟩, ⟨0, .b0, 1⟩]).link 0).transmits 0 .b1 = true ∧
      ((s .data [⟨0, .b0, 1⟩, ⟨0, .b1, 1⟩]).link 0).transmits 0 .b1 = false ∧
      ((s (.control none) [⟨0, .b1, 1⟩, ⟨0, .b0, 1⟩]).link 0).transmits 0 .b1 = false ∧
      ((s .touch [⟨0, .b1, 1⟩, ⟨0, .b0, 1⟩]).link 0).transmits 0 .b1 = false ∧
      ((withPort old held).link 0).transmits 0 .b1 = false ∧ (1 : PortId) ≠ 0 ∧
    (PortTx.orphan (.code 9) = .code 9) ∧ (withPort jobPort held).noticeRevoked (.port 0) ⟨0, .pub, 7⟩ .linkDown =
      withPort jobPort held := by
  decide +kernel

/-- Timers at 0 and at 1. -/
theorem test_witness_PortTimersExpire :
    let settling := { readyPort .settling with turnTimer := some 0 }
    let timed : Port := { jobPort with idleTimer := some 0, graceTimer := some 0, stallTimer := some 0 }
    let left : Port := { jobPort with
      idleTimer := some 1, graceTimer := some 1, stallTimer := some 1, turnTimer := some 1, gatherTimer := some 1 }
    let gathering : Port := { jobPort with gatherTimer := some 0, i0 := .filling [9] }
    let w : Wait := ⟨0, .port 0, .pub, 9⟩
    (withPort timed held).inReset = false ∧ ((withPort timed held).port 0).idleTimer = some 0 ∧
      ((withPort timed held).port 0).graceTimer = some 0 ∧ ((withPort timed held).port 0).stallTimer = some 0 ∧
      left.idleTimer ≠ some 0 ∧ left.graceTimer ≠ some 0 ∧ left.stallTimer ≠ some 0 ∧ left.turnTimer ≠ some 0 ∧
      left.gatherTimer ≠ some 0 ∧
      ((withPort settling .free).port 0).state = .settling ∧ ((withPort settling .free).port 0).turnTimer = some 0 ∧
      (withPort settling .free).lease (.port 0) = .free ∧ ((withPort settling .free).port 0).profile.kind = .job ∧
      (withPort settling .free).queueOf (.port 0) = [] ∧ ((withPort settling .free).setWaits [w]).queueOf (.port 0) = [w] ∧
      ((withPort gathering held).port 0).gatherTimer = some 0 ∧
      ((withPort gathering held).port 0).filling = some (.b0, [9]) ∧
      ((withPort gathering held).lease (.port 0)).holding = some ⟨0, .pub, 7⟩ ∧
      ((withPort gathering held).port 0).inb BufId.b0.other = .free := by
  decide +kernel

/-- Frame sizes reached and not reached by the byte; a byte with an error under CODES; a character begun before the
oldest of two loads. -/
theorem test_witness_CharacterAtAJobPort :
    let codes : Port := { jobPort with profile := { PortProfile.reset with flow := .codes, resumeAny := true } }
    let size (n : Nat) : Port := { jobPort with frameSize := some n, i0 := .filling [1] }
    let f := (jobPort.rxFormat (char 0x13))
    let broken : RxChar := { char 0x13 with stop1 := false }
    let loaded : Port := { jobPort with rxOldFormats := [⟨.r2400, .odd, .one⟩, ⟨.r4800, .even, .two⟩] }
    RxChar.isBreak f ⟨0, false, false, false, 0⟩ = true ∧ RxChar.isBreak f (char 0x13) = false ∧
      RxChar.parityError f (char 0x13) = false ∧ RxChar.framingError (char 0x13) = false ∧
      RxChar.isBreak f broken = false ∧ RxChar.framingError broken = true ∧ codes.profile.resumeAny = true ∧
      codes.profile.flow = .codes ∧ (char 0x13).data = codes.profile.pauseCode ∧
      (char 0x11).data = codes.profile.resumeCode ∧ codes.profile.pauseCode ≠ codes.profile.resumeCode ∧
      (char 0x12).data ≠ codes.profile.pauseCode ∧ (char 0x12).data ≠ codes.profile.resumeCode ∧
      jobPort.profile.flow ≠ .codes ∧ Port.reset.state.isJob = false ∧ jobPort.state.isJob = true ∧
      ({ jobPort with i0 := .handed [1] 0 true } : Port).filling = none ∧ (size 3).filling = some (.b0, [1]) ∧
      (size 3).frameSize ≠ some 2 ∧ (size 2).frameSize = some 2 ∧ ((withPort (size 2) held).port 0).profile.kind = .job ∧
      (withPort (size 2) held).inReset = false ∧
      ((withPort (size 2) held).lease (.port 0)).holding = some ⟨0, .pub, 7⟩ ∧ (size 2).inb BufId.b0.other = .free ∧
      loaded.rxOldFormats[1]? = some ⟨.r4800, .even, .two⟩ ∧ loaded.rxOldFormats[0]? = some ⟨.r2400, .odd, .one⟩ ∧
    let odd : LineFormat := ⟨.r9600, .odd, .two⟩
    let even : LineFormat := ⟨.r9600, .even, .one⟩
    RxChar.isBreak odd ⟨0, false, false, false, 0⟩ = true ∧ RxChar.isBreak odd ⟨0, false, false, true, 0⟩ = false ∧
      RxChar.isBreak even ⟨0, false, false, true, 0⟩ = true ∧ RxChar.isBreak even ⟨0, true, false, false, 0⟩ = false ∧
      RxChar.parityError odd ⟨3, false, true, true, 0⟩ = true ∧ RxChar.parityError even ⟨3, false, true, true, 0⟩ = false ∧
      RxChar.parityError even ⟨3, true, true, true, 0⟩ = true ∧ RxChar.framingError ⟨3, true, true, false, 0⟩ = false ∧
      ([true, true, false, false, false, false, false, false, true].filter id).length = 3 ∧
    (PortCounters.zero.countErrors true true).parityErrors = 1 ∧ (PortCounters.zero.countErrors true true).framingErrors = 1 := by
  decide +kernel

/-- One byte below the pause mark and at it, and each flow. -/
theorem test_witness_InboundPauseIsExpressed :
    let filled (n : Nat) (fl : Flow) : Port := { jobPort with
      i0 := .filling (List.replicate n 0), i1 := .handed [1] 0 true, profile := { PortProfile.reset with flow := fl } }
    (filled 191 .none).wantsPause = false ∧ (filled 192 .none).wantsPause ≠ (filled 192 .none).paused ∧
      (filled 191 .none).wantsPause = (filled 191 .none).paused ∧
      (filled 192 .lines).wantsPause ≠ (filled 192 .lines).paused ∧
      (filled 192 .codes).wantsPause ≠ (filled 192 .codes).paused ∧ (filled 192 .codes).slot = none ∧
      ({ filled 192 .codes with slot := some .resume } : Port).wantsPause = true ∧
      ({ filled 191 .codes with paused := true, slot := some .pause } : Port).wantsPause = false := by
  decide +kernel

/-- A job at rest and one with a byte stored; outbound held by BUSY and by a stop code, and a byte in progress. -/
theorem test_witness_IdleAndStallTimersFollow :
    let staged (fl : Flow) : Port := { jobPort with
      o0 := some ⟨[9], 0⟩, fillOrder := [.b0], credit := 1, busyPin := true, flow := .stopped,
      profile := { PortProfile.reset with flow := fl, stallLimit := 1 } }
    jobPort.atRest = true ∧ jobPort.idleTimer = none ∧ ({ jobPort with idleTimer := some 1 } : Port).idleTimer ≠ none ∧
      ({ jobPort with i0 := .filling [9] } : Port).atRest = false ∧ jobPort.outHeld = false ∧
      (staged .lines).outHeld = true ∧ (staged .codes).outHeld = true ∧ (staged .none).outHeld = false ∧
      ({ staged .lines with tx := .job .b0 9 } : Port).outHeld = false ∧
      (staged .lines).profile.stallLimit ≠ 0 ∧ (staged .lines).stallTimer = none ∧
      ({ staged .lines with stallTimer := some 1 } : Port).stallTimer ≠ none ∧
      ({ staged .lines with profile := { PortProfile.reset with flow := .lines, stallLimit := 0 } } : Port).profile.stallLimit
        = 0 := by
  decide +kernel

theorem test_witness_PortTransmitterChooses :
    let staged (fl : Flow) : Port := { jobPort with
      o0 := some ⟨[9], 0⟩, fillOrder := [.b0], credit := 1, profile := { PortProfile.reset with flow := fl } }
    (State.reset.port 0).tx = .rest ∧ (State.reset.port 0).state = .disabled ∧ (panelPort .idle).profile.kind = .panel ∧
      ({ staged .codes with slot := some .pause } : Port).slot = some .pause ∧ (staged .codes).state ≠ .disabled ∧
      (staged .lines).slot = none ∧ (staged .lines).state = .opened ∧ (staged .lines).fillOrder = [.b0] ∧
      (staged .lines).outb .b0 = some ⟨[9], 0⟩ ∧ ([9] : List Byte)[0]? = some 9 ∧ (staged .lines).tx = .rest ∧
      (staged .codes).flow = .running ∧ jobPort.fillOrder = [] ∧ (readyPort .idle).state ≠ .opened ∧
      (readyPort .idle).state ≠ .closing ∧ ({ staged .codes with flow := .stopped } : Port).flow = .stopped ∧
      (staged .none).profile.flow ≠ .lines ∧ ((withPort (staged .lines) held).port 0).profile.kind = .job ∧
      (withPort (staged .lines) held).inReset = false ∧
    let lines (p : Port) : Port := { p with profile := { p.profile with flow := .lines } }
    (lines (panelPort .idle)).profile.kind = .panel ∧ (lines Port.reset).state = .disabled ∧ (lines jobPort).slot = none ∧
      (lines jobPort).tx = .rest ∧ (lines jobPort).fillOrder = [] ∧ (lines jobPort).profile.flow = .lines ∧
      ({ staged .lines with state := .suspended } : Port).state ≠ .opened ∧
      ({ staged .lines with state := .suspended } : Port).state ≠ .closing ∧
      ({ staged .lines with slot := some .resume } : Port).slot = some .resume ∧
      charBits ⟨.r9600, .none, .one⟩ 0x41 = [false] ++ [true, false, false, false, false, false, true, false] ++ [true] := by
  decide +kernel

theorem test_witness_CharacterSentAdvancesOrDrains :
    let sending (bs : List Byte) (st : PortState) : Port := { jobPort with
      state := st, o0 := some ⟨bs, 0⟩, fillOrder := [.b0], credit := 1, tx := .job .b0 9 }
    let s (bs : List Byte) (st : PortState) (l : Lease) := withPort (sending bs st) l
    (s [9] .opened held).inReset = false ∧ ((s [9] .opened held).port 0).tx = .job .b0 9 ∧
      ((s [9, 8] .opened held).port 0).outb .b0 = some ⟨[9, 8], 0⟩ ∧ 0 + 1 < ([9, 8] : List Byte).length ∧
      ((s [9] .opened held).port 0).outb .b0 = some ⟨[9], 0⟩ ∧ ([9] : List Byte).length ≤ 0 + 1 ∧
      ((s [9] .opened held).port 0).state ≠ .closing ∧ (s [9] .opened held).lease (.port 0) = held ∧
      ((s [9] .opened held).link 0).up = true ∧ ((s [9] .opened held).link 0).notices = [] ∧
      ((s [9] .closing releasing).port 0).state = .closing ∧ (s [9] .suspended releasing).lease (.port 0) = releasing ∧
      ((s [9] .closing releasing).port 0).fillOrder.filter (fun y => !(y == .b0)) = [] ∧
      (s [9] .closing releasing).lease (.port 0) = releasing ∧
      ((s [9] .closing releasing).port 0).profile.turnaround ≠ 0 ∧
      ((withPort { sending [9] .closing with o1 := some ⟨[8], 0⟩, fillOrder := [.b0, .b1] } releasing).port 0).fillOrder.filter
        (fun y => !(y == .b0)) ≠ [] ∧
    let code : Port := { jobPort with tx := .code 0x13 }
    (State.characterDone (withPort code held) 0) = withPort jobPort held ∧ code.tx = .code 0x13 := by
  decide +kernel

/-- Contacts 9 and 10, and phases 10b and 11b. -/
theorem test_witness_TouchReportsAreAssembled :
    let busy : Port := { panelPort .idle with assembler := .assembling 0x80 [1, 2, 3] }
    let f := busy.rxFormat (char 1)
    let broken : RxChar := { char 1 with stop1 := false }
    ((withPort busy .free).port 0).profile.kind = .panel ∧ RxChar.isBreak f (char 1) = false ∧
      RxChar.isBreak f ⟨0, false, false, false, 0⟩ = true ∧
      (panelPort .offline).state ≠ .idle ∧ RxChar.isBreak f broken = false ∧ RxChar.framingError broken = true ∧
      (panelPort .idle).assembler = .waiting ∧ busy.assembler = .assembling 0x80 [1, 2, 3] ∧ busy.state = .idle ∧
      RxChar.parityError f (char 1) = false ∧ RxChar.framingError (char 1) = false ∧
      (char 0x80).data.getLsbD 7 = true ∧ (char 0x7F).data.getLsbD 7 = false ∧ ([1, 2] : List Byte).length < 3 ∧
      (0xC9 : Byte).toNat / 32 % 4 = 2 ∧ (0xC9 : Byte).toNat % 16 = (9 : ContactId).val ∧
      (0xE0 : Byte).toNat / 32 % 4 = 3 ∧ 9 < (0xCA : Byte).toNat % 16 ∧
      (0xFFF : Coord).toNat = (0x3F : Byte).toNat % 64 * 64 + (0x7F : Byte).toNat % 64 ∧
    (PortCounters.zero.countErrors false true).framingErrors = 1 ∧ busy.countMalformed.counters.malformed = 1 := by
  decide +kernel

theorem test_witness_LookupFindsTheLowestZone :
    let z : Zone := ⟨true, 5, 0x800, 0x7FF, 0, 0xFFF⟩
    let s := (State.reset.setZone 30 z).setZone 31 z
    z.matches 5 0x800 0xFFF = true ∧ z.matches 5 0xFFF 0 = true ∧ z.matches 5 0x7FF 0 = false ∧
      s.zoneAt 5 0x800 0 = some 30 ∧ s.zoneAt 5 0x7FF 0 = none ∧ State.reset.zoneAt 0 0 0 = none := by
  decide +kernel

theorem test_witness_ContactTableRoutesReports :
    let z : Zone := ⟨true, 0, 0, 0x7FF, 0, 0xFFF⟩
    let s := ((withPort (panelPort .idle) .free).setZone 31 z).setLease (.zone 31) held
    let t := s.setContact 0 9 ⟨.captured 31, 1, 2⟩
    let d := s.setContact 0 9 ⟨.detached, 1, 2⟩
    (s.contact 0 9).state = .free ∧ s.zoneAt 0 0 0 = some 31 ∧ s.lease (.zone 31) = held ∧
      s.zoneAt 0 0x800 0 = none ∧ (t.contact 0 9).state = .captured 31 ∧ t.holder (.zone 31) = some 0 ∧
      (d.contact 0 9).state = .detached ∧ d.zoneAt 0 0x7FF 0 = some 31 ∧ t.zoneAt 0 0x800 0 = none ∧
      (t.setLease (.zone 31) .free).lease (.zone 31) ≠ held ∧ t.zoneAt 0 0x7FF 0 = some 31 ∧
      (∀ v : ZoneId, (d.contact 0 9).state ≠ .captured v) := by
  decide +kernel

theorem test_witness_ZoneLeaseEndDetachesContacts :
    let z : Zone := ⟨true, 0, 0, 0x7FF, 0, 0xFFF⟩
    let s := ((withPort (panelPort .idle) .free).setZone 31 z).setLease (.zone 31) held
    let t := s.setContact 0 9 ⟨.captured 31, 1, 2⟩
    let w : Wait := ⟨1, .zone 31, .pub, 9⟩
    (t.lease (.zone 31)).holding = some ⟨0, .pub, 7⟩ ∧ (t.contact (t.zone 31).panel 9).state = .captured 31 ∧
      (t.contact (t.zone 31).panel 0).state ≠ .captured 31 ∧ t.queueOf (.zone 31) = [] ∧
      (t.setWaits [w]).queueOf (.zone 31) = [w] ∧ (t.zone 31).enabled = true ∧ (t.link 0).up = true ∧
      t.upsOfZone 0 31 = [⟨some 31, 0, .up, 9, 1, 2⟩] ∧ (5 : PortId) ≠ (t.zone 31).panel := by
  decide +kernel

theorem test_witness_EventsLeaveTheRestAlone :
    Instr.portOf (.idleTimerExpiry 5) = some 5 ∧ Instr.portOf (.busyNegated 0) = some 0 ∧
      (nextOf (exec (.idleTimerExpiry 0) (withPort { jobPort with idleTimer := some 0 } held))).isSome = true ∧
      (nextOf (exec (.linkByteReceived 0 ⟨0xC3, true⟩) (withLink upLink))).isSome = true ∧
      (nextOf (exec (.frameTaken 0) (withLink upLink))).isSome = true ∧
      (nextOf (exec (.noticeMove 0) (withLink upLink))).isSome = true ∧
      (nextOf (exec (.idleCharacterEnd 0 false) (withLink upLink))).isSome = true := by
  decide +kernel

theorem test_witness_RequestsLeaveTheTablesAlone :
    (nextOf (exec (.claim 0) (inHand (.claim (.port 0) allRights true) (withPort (readyPort .idle) .free)))).isSome =
        true ∧ Instr.mayChangeWindows (.claim 0) = false ∧ (1 : LinkId) ≠ 0 := by
  decide +kernel

/-- A port P0 with an open job of K0, every other port and link at reset: each invariant holds, and a step follows. -/
theorem test_witness_QueuesKeepWithinTheirPlaces :
    QueueInv (withPort jobPort held) ∧ (nextOf (step (withPort jobPort held))).isSome = true := by
  refine ⟨⟨?_, ?_, ?_, ?_, ?_⟩, rfl⟩ <;> decide +kernel

theorem test_witness_PartStaysManageable :
    ManagerInv (withPort jobPort held) ∧ (nextOf (step (withPort jobPort held))).isSome = true :=
  ⟨⟨0, by decide +kernel⟩, rfl⟩

theorem test_witness_PendingSetsStayOrdered :
    NoticeInv (withLink { upLink with notices := [⟨.granted, .port 5, 1⟩, ⟨.credit 1, .port 0, 1⟩] }) ∧
      (nextOf (step (withLink upLink))).isSome = true :=
  ⟨by unfold NoticeInv; decide +kernel, rfl⟩

theorem test_witness_JobsLeasesAndCreditAgree :
    JobInv (withPort jobPort held) ∧ (nextOf (step (withPort jobPort held))).isSome = true := by
  refine ⟨⟨?_, ?_, ?_, ?_, ?_, ?_⟩, rfl⟩
  · decide +kernel
  · decide +kernel
  · intro p st h
    have none : ∀ q : PortId, ((withPort jobPort held).port q).remembered = none := by decide +kernel
    rw [none p] at h
    cases h
  · decide +kernel
  · decide +kernel
  · decide +kernel

theorem test_witness_DownLinksHoldNothing :
    DownInv (withPort jobPort held) ∧ (nextOf (step (withPort jobPort held))).isSome = true := by
  refine ⟨⟨?_, ?_, ?_⟩, rfl⟩
  · decide +kernel
  · intro k r
    cases r with
    | port p => revert k p; decide +kernel
    | zone z => revert k z; decide +kernel
  · decide +kernel

theorem test_witness_IngressNeverOverflows :
    IngressInv (withLink { upLink with ingress := [⟨1, 2, 3, List.replicate 1024 0⟩, ⟨1, 2, 3, List.replicate 1012 0⟩] }) ∧
      (nextOf (step (withLink upLink))).isSome = true := by
  refine ⟨⟨?_, ?_⟩, rfl⟩
  · decide +kernel
  · intro k a h
    have hunt : ∀ j : LinkId, ((withLink { upLink with
        ingress := [⟨1, 2, 3, List.replicate 1024 0⟩, ⟨1, 2, 3, List.replicate 1012 0⟩] }).link j).rx = .hunt := by
      decide +kernel
    rw [hunt k] at h
    cases h

/-- An open job of K0, two waits of one zone in the order of their classes, and one of the port. -/
theorem test_witness_WaitPoolStaysInOrder :
    let s := ((withPort jobPort held).setLease (.zone 31) held).setWaits
      [⟨0, .port 0, .pub, 1⟩, ⟨1, .zone 31, .service, 2⟩, ⟨2, .zone 31, .pub, 3⟩]
    (JobInv s ∧ WaitInv s) ∧ (nextOf (step s)).isSome = true := by
  intro s
  have forgotten : ∀ q : PortId, (s.port q).remembered = none := by decide +kernel
  refine ⟨⟨⟨by decide +kernel, by decide +kernel, ?_, by decide +kernel, by decide +kernel, by decide +kernel⟩,
    ⟨by decide +kernel, ?_⟩⟩, rfl⟩
  · intro p st h
    rw [forgotten p] at h
    cases h
  · intro r
    cases r with
    | port p => revert p; decide +kernel
    | zone z => revert z; decide +kernel

/-- A handed buffer of port P0 and its entry at K0. -/
def handedBuffer : State :=
  (withPort { jobPort with i1 := .handed [2] 0 true } held).setLink 0 { upLink with dataQ := [⟨0, .b1, 1⟩] }

theorem test_witness_BuffersAndDataQueuesAgree :
    BufferInv handedBuffer ∧ (nextOf (step handedBuffer)).isSome = true := by
  refine ⟨⟨?_, ?_, by decide +kernel⟩, rfl⟩
  · intro k e he
    have only : ∀ j : LinkId, ∀ d ∈ (handedBuffer.link j).dataQ, j = 0 ∧ d = ⟨0, .b1, 1⟩ := by decide +kernel
    obtain ⟨rfl, rfl⟩ := only k e he
    exact ⟨[2], true, by decide +kernel, rfl⟩
  · intro p b bytes k thisJob hb
    have cases : ∀ (q : PortId) (c : BufId), ((handedBuffer.port q).inb c = .handed [2] 0 true ∧ q = 0 ∧ c = .b1) ∨
        (handedBuffer.port q).inb c = .free ∨ (handedBuffer.port q).inb c = .filling [] := by
      intro q c
      cases c <;> revert q <;> decide +kernel
    rcases cases p b with ⟨h, rfl, rfl⟩ | h | h <;> rw [h] at hb <;> cases hb
    exact ⟨by decide, by decide +kernel⟩

/-- A contact captured by a zone that K0 holds. -/
def touchedPart : State :=
  ((withPort (panelPort .idle) .free).setLease (.zone 31) held).setContact 0 9 ⟨.captured 31, 1, 2⟩

theorem test_witness_CapturedContactsNameHeldZones :
    ContactInv touchedPart ∧ (nextOf (step touchedPart)).isSome = true := by
  refine ⟨⟨?_, ?_⟩, rfl⟩
  · intro p c z hz
    have cases : ∀ (q : PortId) (d : ContactId), touchedPart.contact q d = ⟨.free, 0, 0⟩ ∨
        (touchedPart.contact q d = ⟨.captured 31, 1, 2⟩ ∧ q = 0) := by decide +kernel
    rcases cases p c with h | ⟨h, rfl⟩ <;> rw [h] at hz <;> cases hz
    exact ⟨by decide +kernel, ⟨0, .pub, 7⟩, by decide +kernel⟩
  · intro z h
    have cases : ∀ v : ZoneId, touchedPart.lease (.zone v) = .free ∨ touchedPart.lease (.zone v) = held := by
      decide +kernel
    rcases cases z with e | e <;> rw [e] <;> exact Lease.noConfusion

end Sys2Proof.Tests
end

section
/-! PROOF. Link framing: what a frame is on the line (R2), and the receiver outside and inside a frame (R10 to R12). -/

namespace Sys2Proof.Machine

/-! ## Transparency -/

theorem isReserved_iff (b : Byte) : isReserved b = true ↔ b = 0xC3 ∨ b = 0x55 ∨ b = 0x9E := by
  simp [isReserved, openingByte, idleByte, escapeByte, or_assoc]

theorem escaped_of_reserved {b : Byte} (h : isReserved b = true) : escaped b = [0x9E, b ^^^ 0x20] := if_pos h

theorem escaped_of_not_reserved {b : Byte} (h : ¬ isReserved b = true) : escaped b = [b] := if_neg h

/-- A byte under transparency stands as one byte or as two. -/
theorem length_escaped (b : Byte) : 1 ≤ (escaped b).length ∧ (escaped b).length ≤ 2 := by
  by_cases h : isReserved b = true
  · simp [escaped_of_reserved h]
  · simp [escaped_of_not_reserved h]

theorem length_flatMap_escaped (bs : List Byte) :
    bs.length ≤ (bs.flatMap escaped).length ∧ (bs.flatMap escaped).length ≤ 2 * bs.length := by
  induction bs with
  | nil => simp
  | cons b bs ih =>
    have hb := length_escaped b
    rw [List.flatMap_cons, List.length_append, List.length_cons]
    omega

/-! ## Frames on the line -/

@[simp] theorem length_wordBytes (w : Word) : (wordBytes w).length = 2 := rfl

@[simp] theorem Frame.length_content (f : Frame) : f.content.length = 6 + f.payload.length := by
  simp only [Frame.content, List.length_cons, List.length_append, length_wordBytes]
  omega

/-- Opening pair, six header bytes, payload and check word, the last three under transparency (R2). -/
theorem Frame.length_wire (f : Frame) :
    10 + f.payload.length ≤ f.wire.length ∧ f.wire.length ≤ 18 + 2 * f.payload.length := by
  have h := length_flatMap_escaped (f.content ++ wordBytes (crcOf f.content))
  rw [List.length_append, Frame.length_content, length_wordBytes] at h
  rw [Frame.wire, List.length_cons, List.length_cons]
  omega

/-- Settles O9: the layouts are those of the definitions, the values reserved are the three of R2, and the bounds on the
length come from one byte or two for each byte under transparency. -/
theorem framesAreSentUnderTransparency : Obligations.FramesAreSentUnderTransparency := by
  refine ⟨fun _ => rfl, fun _ => rfl, escaped_of_reserved (by decide), escaped_of_reserved (by decide),
    escaped_of_reserved (by decide), ?_, Frame.length_wire, fun _ _ _ => rfl⟩
  intro b opening fill escape
  have other : ¬ isReserved b = true := by
    rw [isReserved_iff]
    tauto
  exact escaped_of_not_reserved other

/-! ## A byte reaches the receiver -/

theorem State.mapLink_eq_setLink {s : State} {k : LinkId} {f : Link → Link} {m : Link} (h : f (s.link k) = m) :
    s.mapLink k f = s.setLink k m := by
  rw [State.mapLink, h]

theorem State.mapLink_eq_self {s : State} {k : LinkId} {f : Link → Link} (h : f (s.link k) = s.link k) :
    s.mapLink k f = s := by
  rw [State.mapLink_eq_setLink h, State.setLink_link]

theorem exec_linkByteReceived (s : State) (k : LinkId) (c : LinkChar) :
    exec (.linkByteReceived k c) s = s.live (if (s.link k).up then s.mapLink k (Link.receiveByte c.data) else s) := rfl

/-- A byte on a DOWN link is discarded (R10). -/
theorem exec_linkByteReceived_down {s : State} {k : LinkId} (c : LinkChar) (h : (s.link k).up = false) :
    exec (.linkByteReceived k c) s = .next s := by
  simp [exec_linkByteReceived, State.live, h]

theorem exec_linkByteReceived_up {s : State} {k : LinkId} (b : Byte) (stop : Bool) (running : s.inReset = false)
    (h : (s.link k).up = true) :
    exec (.linkByteReceived k ⟨b, stop⟩) s = .next (s.mapLink k (Link.receiveByte b)) := by
  simp [exec_linkByteReceived, State.live_running _ running, h]

/-! ## Outside a frame -/

theorem Link.receiveByte_hunt {l : Link} (b : Byte) (h : l.rx = .hunt) :
    l.receiveByte b = if b = 0xC3 then { l with rx := .armed } else l := by
  rw [Link.receiveByte, h]
  rfl

theorem Link.receiveByte_armed {l : Link} (b : Byte) (h : l.rx = .armed) :
    l.receiveByte b =
      if b = 0x3C then { l with rx := .frame .header Assembly.new }
      else if b = 0xC3 then l else { l with rx := .hunt } := by
  rw [Link.receiveByte, h]
  rfl

/-- Settles O10: the two receiver states by the value of the byte. -/
theorem receiverOutsideAFrame : Obligations.ReceiverOutsideAFrame := by
  refine ⟨fun s k c => exec_linkByteReceived_down c, ?_⟩
  intro s k b stop running up
  rw [exec_linkByteReceived_up b stop running up]
  refine ⟨?_, ?_, ?_, ?_, ?_⟩
  · intro hunt opening
    rw [State.mapLink_eq_setLink ((Link.receiveByte_hunt b hunt).trans (if_pos opening))]
  · intro hunt other
    rw [State.mapLink_eq_self ((Link.receiveByte_hunt b hunt).trans (if_neg other))]
  · intro armed second
    rw [State.mapLink_eq_setLink ((Link.receiveByte_armed b armed).trans (if_pos second))]
    rfl
  · intro armed opening
    have notSecond : b ≠ 0x3C := by
      rw [opening]
      decide
    rw [State.mapLink_eq_self ((Link.receiveByte_armed b armed).trans ((if_neg notSecond).trans (if_pos opening)))]
  · intro armed notSecond notOpening
    rw [State.mapLink_eq_setLink
      ((Link.receiveByte_armed b armed).trans ((if_neg notSecond).trans (if_neg notOpening)))]

/-! ## The table of R12 -/

theorem classify_opening (pending : Bool) : classify pending 0xC3 = .opening := rfl

theorem classify_fill (pending : Bool) : classify pending 0x55 = .fill := rfl

theorem classify_escape : classify false 0x9E = .escape := rfl

theorem classify_plain {b : Byte} (opening : b ≠ 0xC3) (fill : b ≠ 0x55) (escape : b ≠ 0x9E) :
    classify false b = .content b :=
  (if_neg opening).trans ((if_neg fill).trans (if_neg escape))

/-- The bytes that stand for a reserved value behind an escape. -/
theorem isReserved_xor_iff (b : Byte) : isReserved (b ^^^ 0x20) = true ↔ b = 0xE3 ∨ b = 0x75 ∨ b = 0xBE := by
  have moved (r : Byte) : b ^^^ 0x20 = r ↔ b = r ^^^ 0x20 := by
    constructor
    · rintro rfl
      simp
    · rintro rfl
      simp
  rw [isReserved_iff, moved, moved, moved]
  rfl

theorem classify_escaped {b : Byte} (h : b = 0xE3 ∨ b = 0x75 ∨ b = 0xBE) :
    classify true b = .content (b ^^^ 0x20) := by
  rcases h with rfl | rfl | rfl <;> rfl

theorem classify_escapeError {b : Byte} (opening : b ≠ 0xC3) (fill : b ≠ 0x55)
    (h : ¬ (b = 0xE3 ∨ b = 0x75 ∨ b = 0xBE)) : classify true b = .escapeError := by
  rw [← isReserved_xor_iff] at h
  exact (if_neg opening).trans ((if_neg fill).trans (if_neg h))

/-! ## Inside a frame -/

theorem exec_linkByteReceived_frame {s : State} {k : LinkId} (b : Byte) (stop : Bool) {ph : RxPhase} {a : Assembly}
    (running : s.inReset = false) (up : (s.link k).up = true) (inFrame : (s.link k).rx = .frame ph a) :
    exec (.linkByteReceived k ⟨b, stop⟩) s = .next (s.mapLink k (Link.frameByte ph a b)) := by
  have passed : (s.link k).receiveByte b = (s.link k).frameByte ph a b := by rw [Link.receiveByte, inFrame]
  rw [exec_linkByteReceived_up b stop running up, State.mapLink_eq_setLink passed]
  rfl

section
variable {ph : RxPhase} {a : Assembly} {b : Byte}

theorem Link.frameByte_opening (h : classify a.escape b = .opening) : Link.frameByte ph a b =
    fun l => (l.discardFrame .armed).mapCounters (fun c => { c with aborted := bump c.aborted }) := by
  funext l
  rw [Link.frameByte, h]

theorem Link.frameByte_fill (h : classify a.escape b = .fill) : Link.frameByte ph a b =
    fun l => (l.discardFrame .hunt).mapCounters (fun c => { c with aborted := bump c.aborted }) := by
  funext l
  rw [Link.frameByte, h]

theorem Link.frameByte_escape (h : classify a.escape b = .escape) : Link.frameByte ph a b =
    fun l => { l with rx := .frame ph { a with escape := true } } := by
  funext l
  rw [Link.frameByte, h]

theorem Link.frameByte_escapeError (h : classify a.escape b = .escapeError) : Link.frameByte ph a b =
    fun l => (l.discardFrame .hunt).mapCounters (fun c => { c with escapeErrors := bump c.escapeErrors }) := by
  funext l
  rw [Link.frameByte, h]

theorem Link.frameByte_content {x : Byte} (h : classify a.escape b = .content x) :
    Link.frameByte ph a b = Link.contentByte ph a x := by
  funext l
  rw [Link.frameByte, h]

end

/-! ## A frame discarded -/

theorem Link.leaveFrame_noRate {l : Link} (next : RxState) (h : l.rxNewRate = none) :
    l.leaveFrame next = { l with rx := next } := by
  rw [Link.leaveFrame, h]

theorem Link.leaveFrame_rate {l : Link} (next : RxState) {r : LinkRate} (h : l.rxNewRate = some r) :
    l.leaveFrame next = { l with rx := .hunt, rxRate := r, rxNewRate := none } := by
  rw [Link.leaveFrame, h]

@[simp] theorem Link.rx_discardFrame (next : RxState) (l : Link) :
    (l.discardFrame next).rx = (l.leaveFrame next).rx := Link.rx_judgeHold _ _

@[simp] theorem Link.rxRate_judgeHold (was : Nat) (l : Link) : (l.judgeHold was).rxRate = l.rxRate := by
  unfold Link.judgeHold
  split <;> rfl

@[simp] theorem Link.rxRate_discardFrame (next : RxState) (l : Link) :
    (l.discardFrame next).rxRate = (l.leaveFrame next).rxRate := Link.rxRate_judgeHold _ _

/-- Settles O11: the table of R12 row by row, then what leaving the frame does with and without a waiting rate. -/
theorem receiverInsideAFrame : Obligations.ReceiverInsideAFrame := by
  constructor
  · intro s k b stop ph a running up inFrame
    rw [exec_linkByteReceived_frame b stop running up inFrame]
    refine ⟨?_, ?_, ?_, ?_, ?_, ?_⟩
    · rintro rfl
      rw [Link.frameByte_opening (classify_opening _)]
    · rintro rfl
      rw [Link.frameByte_fill (classify_fill _)]
    · rintro rfl noEscape
      rw [Link.frameByte_escape (by rw [noEscape, classify_escape])]
      rfl
    · intro reserved escape
      rw [Link.frameByte_content (by rw [escape, classify_escaped reserved])]
    · intro opening fill notE3 not75 notBE escape
      have error : classify true b = .escapeError := classify_escapeError opening fill (by tauto)
      rw [Link.frameByte_escapeError (by rw [escape, error])]
    · intro opening fill notEscape noEscape
      rw [Link.frameByte_content (by rw [noEscape, classify_plain opening fill notEscape])]
  · intro l next outside
    refine ⟨?_, ?_, ?_⟩
    · have nothing : next.written = 0 := by rcases outside with rfl | rfl <;> rfl
      exact Link.occupancy_discardFrame next l nothing
    · intro noRate
      have left := Link.leaveFrame_noRate next noRate
      exact ⟨by rw [Link.rx_discardFrame, left], by rw [Link.discardFrame, left]⟩
    · intro r rate
      have left := Link.leaveFrame_rate next rate
      exact ⟨by rw [Link.rx_discardFrame, left], by rw [Link.rxRate_discardFrame, left],
        by rw [Link.discardFrame, left]⟩

end Sys2Proof.Machine
end

section
/-! PROOF. Touch queues: a report arriving at the touch queue of a link, with room and full (R25 to R27). -/

namespace Sys2Proof.Machine

/-! ## The latest MOVE of the same panel and contact (R26 case 1) -/

/-- The reports that case 1 of R26 replaces by a MOVE `r`: the MOVEs of its panel and contact. -/
def Report.SameMove (r q : Report) : Prop := q.phase = .move ∧ q.panel = r.panel ∧ q.contact = r.contact

section
variable {r q : Report}

theorem replaceMove_cons_same (qs : List Report) (h : r.SameMove q) : replaceMove r (q :: qs) = some (r :: qs) := by
  obtain ⟨move, panel, contact⟩ := h
  simp [replaceMove, move, panel, contact]

theorem replaceMove_cons_other (qs : List Report) (h : ¬ r.SameMove q) :
    replaceMove r (q :: qs) = (replaceMove r qs).map (q :: ·) := by
  refine if_neg ?_
  simpa [Report.SameMove, and_assoc] using h

theorem replaceMove_eq_none {qs : List Report} (h : ∀ y ∈ qs, ¬ r.SameMove y) : replaceMove r qs = none := by
  induction qs with
  | nil => rfl
  | cons y ys ih =>
    obtain ⟨other, rest⟩ := List.forall_mem_cons.1 h
    rw [replaceMove_cons_other ys other, ih rest, Option.map_none]

/-- Of a list given newest first, the first such MOVE is the one replaced. -/
theorem replaceMove_append_cons {newer : List Report} (older : List Report) (same : r.SameMove q)
    (h : ∀ y ∈ newer, ¬ r.SameMove y) : replaceMove r (newer ++ q :: older) = some (newer ++ r :: older) := by
  induction newer with
  | nil => exact replaceMove_cons_same older same
  | cons y ys ih =>
    obtain ⟨other, rest⟩ := List.forall_mem_cons.1 h
    rw [List.cons_append, replaceMove_cons_other _ other, ih rest, Option.map_some, List.cons_append]

end

/-! ## The oldest MOVE (R26 case 2) -/

theorem dropMove_cons_move {q : Report} (qs : List Report) (h : q.phase = .move) : dropMove (q :: qs) = some qs :=
  if_pos h

theorem dropMove_cons_other {q : Report} (qs : List Report) (h : q.phase ≠ .move) :
    dropMove (q :: qs) = (dropMove qs).map (q :: ·) := if_neg h

theorem dropMove_eq_none {qs : List Report} (h : ∀ y ∈ qs, y.phase ≠ .move) : dropMove qs = none := by
  induction qs with
  | nil => rfl
  | cons y ys ih =>
    obtain ⟨other, rest⟩ := List.forall_mem_cons.1 h
    rw [dropMove_cons_other ys other, ih rest, Option.map_none]

/-- Of a list given oldest first, the first MOVE is the one removed. -/
theorem dropMove_append_cons {older : List Report} {q : Report} (newer : List Report) (move : q.phase = .move)
    (h : ∀ x ∈ older, x.phase ≠ .move) : dropMove (older ++ q :: newer) = some (older ++ newer) := by
  induction older with
  | nil => exact dropMove_cons_move newer move
  | cons x xs ih =>
    obtain ⟨other, rest⟩ := List.forall_mem_cons.1 h
    rw [List.cons_append, dropMove_cons_other _ other, ih rest, Option.map_some, List.cons_append]

/-! ## A full queue (R26) -/

/-- Case 1 of R26 decides when its search finds a report to replace. -/
theorem fullTouch_of_replaceMove {queue rest : List Report} {r : Report} (move : r.phase = .move)
    (h : replaceMove r queue.reverse = some rest) : fullTouch queue r = rest.reverse := by
  rw [fullTouch, if_pos move, h]

/-- Without a report for case 1, the search of case 2 decides between cases 2 and 3. -/
theorem fullTouch_of_noSameMove {queue : List Report} {r : Report}
    (h : r.phase = .move → ∀ y ∈ queue, ¬ r.SameMove y) :
    fullTouch queue r = ((dropMove queue).getD (queue.drop 1)) ++ [r] := by
  have noReplacement : (if r.phase = .move then replaceMove r queue.reverse else none) = none := by
    split
    · next move => exact replaceMove_eq_none fun y hy => h move y (List.mem_reverse.1 hy)
    · rfl
  rw [fullTouch, noReplacement]
  cases dropMove queue <;> rfl

/-- Case 1: the latest MOVE of the same panel and contact is replaced in its place. -/
theorem fullTouch_replaces_latest {r q : Report} (xs : List Report) {ys : List Report} (move : r.phase = .move)
    (same : r.SameMove q) (latest : ∀ y ∈ ys, ¬ r.SameMove y) :
    fullTouch (xs ++ q :: ys) r = xs ++ r :: ys := by
  have newestFirst (p : Report) : (xs ++ p :: ys).reverse = ys.reverse ++ p :: xs.reverse := by simp
  have found : replaceMove r (xs ++ q :: ys).reverse = some (xs ++ r :: ys).reverse := by
    rw [newestFirst, newestFirst]
    exact replaceMove_append_cons _ same fun y hy => latest y (List.mem_reverse.1 hy)
  rw [fullTouch_of_replaceMove move found, List.reverse_reverse]

/-- Case 2: the oldest MOVE makes room at the tail. -/
theorem fullTouch_removes_oldestMove {r q : Report} {xs : List Report} (ys : List Report)
    (noSame : r.phase = .move → ∀ y ∈ xs ++ q :: ys, ¬ r.SameMove y) (move : q.phase = .move)
    (oldest : ∀ x ∈ xs, x.phase ≠ .move) : fullTouch (xs ++ q :: ys) r = xs ++ ys ++ [r] := by
  rw [fullTouch_of_noSameMove noSame, dropMove_append_cons ys move oldest, Option.getD_some]

/-- Case 3: with no MOVE in the queue, the head makes room at the tail. -/
theorem fullTouch_removes_head {q : Report} {ys : List Report} (r : Report)
    (noMove : ∀ y ∈ q :: ys, y.phase ≠ .move) : fullTouch (q :: ys) r = ys ++ [r] := by
  have noSame : r.phase = .move → ∀ y ∈ q :: ys, ¬ r.SameMove y := fun _ y hy same => noMove y hy same.1
  rw [fullTouch_of_noSameMove noSame, dropMove_eq_none noMove]
  rfl

/-! ## The queue of a link -/

section
variable {l : Link} (r : Report)

theorem Link.takeReport_down (down : l.up = false) : l.takeReport r = l := by
  rw [Link.takeReport, down]
  rfl

theorem Link.takeReport_room (up : l.up = true) (room : l.touch.length < 8) :
    l.takeReport r = { l with touch := l.touch ++ [r] } := by
  rw [Link.takeReport, up]
  exact if_pos room

/-- At a full queue one report is lost, and touch lost counts it. -/
theorem Link.takeReport_full (up : l.up = true) (full : 8 ≤ l.touch.length) : l.takeReport r = { l with
    touch := fullTouch l.touch r,
    counters := { l.counters with touchLost := bump l.counters.touchLost } } := by
  rw [Link.takeReport, up]
  exact if_neg (Nat.not_lt.2 full)

end

/-- Settles O20: a DOWN link, a queue with room, then the three cases of R26 at a full queue. -/
theorem touchQueueTakesReports : Obligations.TouchQueueTakesReports := by
  intro l r
  refine ⟨Link.takeReport_down r, Link.takeReport_room r, ?_, ?_, ?_⟩
  · intro xs ys q up full queue move phase panel contact latest
    rw [Link.takeReport_full r up full, queue,
      fullTouch_replaces_latest xs move ⟨phase, panel, contact⟩ latest]
  · intro xs ys q up full queue noSame move oldest
    rw [queue] at noSame
    rw [Link.takeReport_full r up full, queue, fullTouch_removes_oldestMove ys noSame move oldest]
  · intro q ys up full queue noMove
    rw [queue] at noMove
    rw [Link.takeReport_full r up full, queue, fullTouch_removes_head r noMove]

end Sys2Proof.Machine
end

section
/-! PROOF. The window decoder: the addresses a window matches (R60), and the window that governs one (R61, R62). -/

namespace Sys2Proof.Machine

/-! ## The addresses a window matches (R60) -/

/-- Words agree once the bits under a mask are cleared exactly when they agree at every bit the mask does not free. -/
theorem Word.and_not_eq_iff (x y m : Word) :
    x &&& ~~~m = y &&& ~~~m ↔ ∀ i : Nat, i < 16 → m.getLsbD i = false → x.getLsbD i = y.getLsbD i := by
  constructor
  · intro same i small free
    have bit := congrArg (BitVec.getLsbD · i) same
    simpa only [BitVec.getLsbD_and, BitVec.getLsbD_not, small, free, decide_true, Bool.not_false,
      Bool.and_true] using bit
  · intro agree
    refine BitVec.eq_of_getLsbD_eq fun i small => ?_
    cases masked : m.getLsbD i
    · simp [masked, agree i small masked]
    · simp [masked]

/-- A base with no bit under the mask stands as it is when the masked bits are cleared. -/
theorem Word.and_not_of_and_eq_zero {b m : Word} (apart : b &&& m = 0) : b &&& ~~~m = b :=
  calc b &&& ~~~m = (b &&& m) ||| (b &&& ~~~m) := by rw [apart]; exact (BitVec.zero_or).symm
    _ = b &&& (m ||| ~~~m) := BitVec.and_or_distrib_left.symm
    _ = b := by rw [BitVec.or_not_self, BitVec.and_allOnes]

theorem Window.matches_eq_true_iff (w : Window) (a : Word) :
    w.matches a = true ↔ w.enabled = true ∧ a &&& ~~~w.mask = w.base &&& ~~~w.mask := by
  rw [Window.matches, Bool.and_eq_true, beq_iff_eq]

/-! ## The governing window (R61, R62) -/

section
variable {s : State} {a : Word}

theorem State.govern_of_lowest {i : WindowId} (numbered : i.val < 16) (found : s.windows[i.val].matches a = true)
    (lowest : ∀ j : WindowId, j < i → s.windows[j.val].matches a = false) : s.govern a = some s.windows[i.val] := by
  have first : (s.windows.toList.take 16).find? (fun w => w.matches a) = some s.windows[i.val] := by
    refine List.find?_eq_some_iff_getElem.2 ⟨found, i.val, by simp [numbered], by simp, fun j below => ?_⟩
    simpa using lowest ⟨j, below.trans i.isLt⟩ below
  rw [State.govern, first]

/-- With no match among W0 to W15 the choice falls to the default window, whose enabled flag alone decides. -/
theorem State.govern_of_noMatch (noMatch : ∀ j : WindowId, j.val < 16 → s.windows[j.val].matches a = false) :
    s.govern a = if s.windows[16].enabled then some s.windows[16] else none := by
  have nothing : (s.windows.toList.take 16).find? (fun w => w.matches a) = none := by
    refine List.find?_eq_none.2 fun w member => ?_
    obtain ⟨j, inside, rfl⟩ := List.mem_iff_getElem.1 member
    have numbered : j < 16 := by simpa using inside
    simpa using noMatch ⟨j, by omega⟩ numbered
  rw [State.govern, nothing]

end

/-- Settles O18: the match bit by bit and with the masked bits cleared, then the lowest match and the default window. -/
theorem windowsGovernByLowestMatch : Obligations.WindowsGovernByLowestMatch := by
  refine ⟨fun w a => ⟨?_, fun apart => ?_⟩, fun s a => ⟨?_, ?_, ?_⟩⟩
  · rw [Window.matches_eq_true_iff, Word.and_not_eq_iff]
  · rw [Window.matches_eq_true_iff, Word.and_not_of_and_eq_zero apart]
  · intro i numbered found lowest
    exact State.govern_of_lowest numbered found lowest
  · intro noMatch enabled
    rw [State.govern_of_noMatch noMatch, if_pos enabled]
  · intro noMatch disabled
    rw [State.govern_of_noMatch noMatch, disabled, if_neg Bool.false_ne_true]

end Sys2Proof.Machine
end

section
/-! PROOF. The handling event of a management command (R43, R49, R163), and READ_COUNTS with the counters it returns
(R18, R37, R123, R162, R174). -/

namespace Sys2Proof.Machine

/-! ## Operand bytes -/

theorem indexOf_eq_some {n : Nat} {b : Byte} {i : Fin n} (h : b.toNat = i.val) : indexOf n b = some i := by
  simp [indexOf, h]

theorem indexOf_eq_none {n : Nat} {b : Byte} (h : n ≤ b.toNat) : indexOf n b = none := dif_neg (Nat.not_lt.2 h)

theorem flagOf_eq_none {b : Byte} (h : 1 < b.toNat) : flagOf b = none := by
  unfold flagOf
  split
  · omega
  · omega
  · rfl

/-! ## Counters -/

theorem toNat_hiByte_loByte (w : Word) : (hiByte w).toNat * 256 + (loByte w).toNat = w.toNat := by
  have bound := w.isLt
  simp only [hiByte, loByte, BitVec.toNat_ofNat]
  omega

/-- A counter stops at 65535 (R18, R37, R123, R162). -/
theorem toNat_bump (w : Word) : (bump w).toNat = min (w.toNat + 1) 65535 := by
  unfold bump
  split
  · next full => simp [full]
  · next room =>
    have below : w.toNat ≠ 65535 := fun e => room (BitVec.eq_of_toNat_eq e)
    have bound := w.isLt
    rw [BitVec.toNat_add, show (1 : Word).toNat = 1 from rfl]
    omega

/-! ## The handling event of a management command -/

@[simp] theorem Link.counters_flush (r : Option Resource) (l : Link) : (l.flush r).counters = l.counters := by
  cases r <;> rfl

/-- The notices moved ahead of an answer leave every counter as it was. -/
@[simp] theorem State.counters_link_prepared (s : State) (k j : LinkId) (r : Option Resource) :
    ((s.prepared k r).link j).counters = (s.link j).counters := by
  rw [State.prepared, State.link_mapLink]
  split
  · next same => rw [same, Link.counters_flush]
  · rfl

@[simp] theorem State.port_prepared (s : State) (k : LinkId) (r : Option Resource) (p : PortId) :
    (s.prepared k r).port p = s.port p := rfl

theorem State.handle_answered {s t : State} {k : LinkId} {h : Hand} {r : Option Resource} {a : Answer}
    {perform : State → Performed} (handles : Handles s k h r) (performed : perform (s.prepared k r) = ⟨t, some a⟩) :
    s.handle k h r perform = t.answer k h a := by
  obtain ⟨-, -, noRestart, room⟩ := handles
  simp [State.handle, noRestart, room, performed]

/-- A management command of the right length in hand passes check 1 of R163. -/
theorem State.manage_of_length {s : State} {k : LinkId} {cmd : MgmtCmd} {tag : Byte} {address : Word}
    {c : Byte} {ops : List Byte} (perform : List Byte → State → Performed)
    (hand : (s.link k).hand = some ⟨tag, address, .mgmt cmd (c :: ops)⟩) (length : (c :: ops).length = cmd.length) :
    s.manage k cmd perform =
      s.handle k ⟨tag, address, .mgmt cmd (c :: ops)⟩ (cmd.names (c :: ops)) (perform ops) := by
  simp only [State.manage, hand, if_pos length, if_true, List.drop_succ_cons, List.drop_zero]

/-! ## READ_COUNTS -/

theorem exec_readCounts (s : State) (k : LinkId) :
    exec (.readCounts k) s = s.live (s.manage k .readCounts State.readCounts) := rfl

section
variable {s t : State} {k : LinkId} {tag c kind index flag : Byte} {address : Word}

theorem exec_readCounts_answered {r : Option Resource} {a : Answer}
    (handles : Handles s k ⟨tag, address, .mgmt .readCounts [c, kind, index, flag]⟩ r)
    (names : MgmtCmd.readCounts.names [c, kind, index, flag] = r)
    (performed : (s.prepared k r).readCounts [kind, index, flag] = ⟨t, some a⟩) :
    exec (.readCounts k) s = .next (t.answer k ⟨tag, address, .mgmt .readCounts [c, kind, index, flag]⟩ a) := by
  have answered := State.handle_answered handles performed
  obtain ⟨running, hand, -, -⟩ := handles
  rw [exec_readCounts, State.live_running _ running, State.manage_of_length _ hand rfl, names, answered]

/-- The operands of READ_COUNTS that name neither a link nor a port, or a link with a wrong flag (R163, R174). -/
def CountsOutOfRange (kind index flag : Byte) : Prop :=
  1 < kind.toNat ∨ (kind = 0 ∧ (7 < index.toNat ∨ 1 < flag.toNat)) ∨ (kind = 1 ∧ 5 < index.toNat)

/-! ### The resource named (R163) -/

theorem MgmtCmd.names_readCounts_outOfRange (c : Byte) (h : CountsOutOfRange kind index flag) :
    MgmtCmd.readCounts.names [c, kind, index, flag] = none := by
  rcases h with wrong | ⟨rfl, -⟩ | ⟨rfl, high⟩
  · have other : kind ≠ 1 := by rintro rfl; exact absurd wrong (by decide)
    exact if_neg other
  · rfl
  · simp [MgmtCmd.names, indexOf_eq_none high]

theorem MgmtCmd.names_readCounts_port (c flag : Byte) {p : PortId} (h : index.toNat = p.val) :
    MgmtCmd.readCounts.names [c, 1, index, flag] = some (.port p) := by
  simp [MgmtCmd.names, indexOf_eq_some h]

/-! ### The counters read -/

theorem State.readCounts_outOfRange (s : State) (h : CountsOutOfRange kind index flag) :
    s.readCounts [kind, index, flag] = .range s none := by
  rcases h with wrong | ⟨rfl, high | high⟩ | ⟨rfl, high⟩
  · have notLink : kind ≠ 0 := by rintro rfl; exact absurd wrong (by decide)
    have notPort : kind ≠ 1 := by rintro rfl; exact absurd wrong (by decide)
    exact (if_neg notLink).trans (if_neg notPort)
  · simp [State.readCounts, State.readLinkCounts, indexOf_eq_none high]
  · simp [State.readCounts, State.readLinkCounts, flagOf_eq_none high]
  · simp [State.readCounts, State.readPortCounts, indexOf_eq_none high]

theorem State.readCounts_link (s : State) {j : LinkId} {clear : Bool} (h : index.toNat = j.val)
    (set : flagOf flag = some clear) : s.readCounts [0, index, flag] = s.linkCounts j clear := by
  simp [State.readCounts, State.readLinkCounts, indexOf_eq_some h, set]

theorem State.readCounts_port (s : State) {p : PortId} {clear : Bool} (h : index.toNat = p.val)
    (set : flagOf flag = some clear) : s.readCounts [1, index, flag] = s.portCounts p clear := by
  simp [State.readCounts, State.readPortCounts, indexOf_eq_some h, set]

theorem State.readCounts_port_wrongFlag (s : State) {p : PortId} (h : index.toNat = p.val) (wrong : 1 < flag.toNat) :
    s.readCounts [1, index, flag] = .range s (some (.port p)) := by
  simp [State.readCounts, State.readPortCounts, indexOf_eq_some h, flagOf_eq_none wrong]

/-- The counters of a link are those from before the event, whatever the flag. -/
theorem State.linkCounts_prepared (s : State) (k j : LinkId) (r : Option Resource) (clear : Bool) :
    (s.prepared k r).linkCounts j clear =
      ⟨if clear then (s.prepared k r).mapLink j (fun l => { l with counters := LinkCounters.zero }) else s.prepared k r,
        some ⟨.done, 0xFF, 0, (s.link j).counters.bytes, none⟩⟩ := by
  rw [State.linkCounts, State.counters_link_prepared]
  rfl

/-- The counters of a port are those from before the event, whatever the flag. -/
theorem State.portCounts_prepared (s : State) (k : LinkId) (p : PortId) (r : Option Resource) (clear : Bool) :
    (s.prepared k r).portCounts p clear =
      ⟨if clear then (s.prepared k r).setPort p { s.port p with counters := PortCounters.zero } else s.prepared k r,
        some ⟨.done, (Resource.port p).code, 0, (s.port p).counters.bytes, none⟩⟩ := by
  rw [State.portCounts, State.mapPort, State.port_prepared]
  rfl

/-! ### The command -/

theorem exec_readCounts_outOfRange (wrong : CountsOutOfRange kind index flag)
    (handles : Handles s k ⟨tag, address, .mgmt .readCounts [c, kind, index, flag]⟩ none) :
    exec (.readCounts k) s = .next ((s.prepared k none).answer k
      ⟨tag, address, .mgmt .readCounts [c, kind, index, flag]⟩ (Answer.plain .range 0xFF 0)) :=
  exec_readCounts_answered handles (MgmtCmd.names_readCounts_outOfRange c wrong) (State.readCounts_outOfRange _ wrong)

theorem exec_readCounts_port_wrongFlag {p : PortId} (named : index.toNat = p.val) (wrong : 1 < flag.toNat)
    (handles : Handles s k ⟨tag, address, .mgmt .readCounts [c, 1, index, flag]⟩ (some (.port p))) :
    exec (.readCounts k) s = .next ((s.prepared k (some (.port p))).answer k
      ⟨tag, address, .mgmt .readCounts [c, 1, index, flag]⟩ (Answer.plain .range (Resource.port p).code 0)) :=
  exec_readCounts_answered handles (MgmtCmd.names_readCounts_port c flag named)
    (State.readCounts_port_wrongFlag _ named wrong)

theorem exec_readCounts_port {p : PortId} {clear : Bool} (named : index.toNat = p.val) (set : flagOf flag = some clear)
    (handles : Handles s k ⟨tag, address, .mgmt .readCounts [c, 1, index, flag]⟩ (some (.port p))) :
    exec (.readCounts k) s = .next ((if clear then
        (s.prepared k (some (.port p))).setPort p { s.port p with counters := PortCounters.zero }
      else s.prepared k (some (.port p))).answer k ⟨tag, address, .mgmt .readCounts [c, 1, index, flag]⟩
        ⟨.done, (Resource.port p).code, 0, (s.port p).counters.bytes, none⟩) :=
  exec_readCounts_answered handles (MgmtCmd.names_readCounts_port c flag named)
    ((State.readCounts_port _ named set).trans (State.portCounts_prepared s k p _ clear))

theorem exec_readCounts_link {j : LinkId} {clear : Bool} (named : index.toNat = j.val) (set : flagOf flag = some clear)
    (handles : Handles s k ⟨tag, address, .mgmt .readCounts [c, 0, index, flag]⟩ none) :
    exec (.readCounts k) s = .next ((if clear then
        (s.prepared k none).mapLink j (fun l => { l with counters := LinkCounters.zero })
      else s.prepared k none).answer k ⟨tag, address, .mgmt .readCounts [c, 0, index, flag]⟩
        ⟨.done, 0xFF, 0, (s.link j).counters.bytes, none⟩) :=
  exec_readCounts_answered handles rfl
    ((State.readCounts_link _ named set).trans (State.linkCounts_prepared s k j _ clear))

end

/-- Settles O32: the layouts are those of the definitions, then the counter arithmetic, then the operands out of range,
those of a port and those of a link. -/
theorem readCountsReturnsAndClears : Obligations.ReadCountsReturnsAndClears := by
  refine ⟨fun _ => rfl, fun _ => rfl, fun w => ⟨toNat_hiByte_loByte w, toNat_bump w⟩, ?_⟩
  intro s k tag address c kind index flag h hand
  subst hand
  refine ⟨exec_readCounts_outOfRange, ?_, ?_⟩
  · rintro p rfl named handles
    refine ⟨fun wrong => exec_readCounts_port_wrongFlag named wrong handles, ?_, ?_⟩
    · rintro rfl
      exact exec_readCounts_port (clear := false) named rfl handles
    · rintro rfl
      exact exec_readCounts_port (clear := true) named rfl handles
  · rintro j rfl named handles
    constructor
    · rintro rfl
      exact exec_readCounts_link (clear := false) named rfl handles
    · rintro rfl
      exact exec_readCounts_link (clear := true) named rfl handles

end Sys2Proof.Machine
end

section
/-! PROOF. The work of the port and panel engines and of the lease block, as a chain of small effects: what every
invariant that speaks of links, leases or the wait pool needs to look at, instead of at each command. -/

namespace Sys2Proof.Machine

/-! ## Effects -/

/-- One small effect of an engine or of the lease block on s. With `hands` false no inbound buffer is handed to a data
queue, as in a revoke. -/
inductive State.Effect (hands : Prop) (s : State) : State → Prop
  | port (p : PortId) (x : Port) : s.Effect hands (s.setPort p x)
  | zone (z : ZoneId) (x : Zone) : s.Effect hands (s.setZone z x)
  | window (i : WindowId) (w : Window) : s.Effect hands (s.setWindow i w)
  | report (v : Option LinkId) : s.Effect hands { s with reportLink := v }
  | free (r : Resource) : s.Effect hands (s.setLease r .free)
  | seat (w : Wait) (waits : w ∈ s.waits) :
      s.Effect hands ((s.removeWait w.link w.resource).setLease w.resource (.held ⟨w.link, w.cls, w.tag⟩))
  | closing (p : PortId) (h : Holding) (held : s.lease (.port p) = .held h) :
      s.Effect hands (s.setLease (.port p) (.releasing h))
  | waits (ws : List Wait) (fewer : ws.Sublist s.waits) : s.Effect hands (s.setWaits ws)
  | notice (k : LinkId) (n : Notice) : s.Effect hands (s.enterNotice k n)
  | withdraw (k : LinkId) (keep : Notice → Bool) :
      s.Effect hands (s.mapLink k (fun l => { l with notices := l.notices.filter keep }))
  | touch (k : LinkId) (r : Report) : s.Effect hands (s.queueReport k r)
  | hand (k : LinkId) (r : Resource) (e : DataEntry) (allowed : hands) (holder : s.holder r = some k) :
      s.Effect hands (s.mapLink k (fun l => { l with dataQ := l.dataQ ++ [e] }))
  | unhand (k : LinkId) (keep : DataEntry → Bool) :
      s.Effect hands (s.mapLink k (fun l => { l with dataQ := l.dataQ.filter keep }))

/-- A chain of effects. -/
abbrev State.Work (hands : Prop) : State → State → Prop := Relation.ReflTransGen (State.Effect hands)

/-- What every effect keeps, all work keeps. -/
theorem State.Work.keeps {hands : Prop} {I : State → Prop} (h : ∀ s t : State, s.Effect hands t → I s → I t)
    {s t : State} (w : s.Work hands t) (i : I s) : I t := by
  induction w with
  | refl => exact i
  | tail _ last ih => exact h _ _ last ih

section
variable {hands : Prop}

theorem State.Effect.work {s t : State} (e : s.Effect hands t) : s.Work hands t := .single e

theorem State.work_mapPort (s : State) (p : PortId) (f : Port → Port) : s.Work hands (s.mapPort p f) :=
  (State.Effect.port p _).work

theorem State.work_foldl {α : Type} (f : State → α → State) (h : ∀ (t : State) (a : α), t.Work hands (f t a)) :
    ∀ (as : List α) (s : State), s.Work hands (as.foldl f s)
  | [], _ => .refl
  | a :: as, s => (h s a).trans (State.work_foldl f h as (f s a))

/-! ## Port states and grants -/

theorem State.work_setPortState (s : State) (p : PortId) (st : PortState) : s.Work hands (s.setPortState p st) := by
  unfold State.setPortState
  dsimp only
  split
  · exact s.work_mapPort p _
  · exact (s.work_mapPort p _).trans (State.Effect.notice _ _).work

/-- Behind its lease a grant only opens the port. -/
theorem State.work_grant (s : State) (r : Resource) (h : Holding) :
    (s.setLease r (.held h)).Work hands (s.grant r h) := by
  cases r with
  | port p =>
    simp only [State.grant, State.openPort]
    exact (State.work_setPortState _ p _).trans (State.work_mapPort _ p _)
  | zone z => exact .refl

/-- The entry at the head of a queue is in the pool and waits for its resource. -/
theorem State.mem_of_queueOf {s : State} {r : Resource} {w : Wait} {ws : List Wait} (h : s.queueOf r = w :: ws) :
    w ∈ s.waits ∧ w.resource = r := by
  have member : w ∈ s.queueOf r := by simp [h]
  simpa [State.queueOf] using member

theorem State.work_grantHead (s : State) (r : Resource) : s.Work hands (s.grantHead r) := by
  unfold State.grantHead
  split
  · split
    · exact .refl
    · next w ws queue =>
      obtain ⟨waits, rfl⟩ := State.mem_of_queueOf queue
      exact ((State.Effect.seat w waits).work.trans (State.work_grant _ _ _)).trans (State.Effect.notice _ _).work
  · exact .refl

theorem State.work_enterIdle (s : State) (p : PortId) : s.Work hands (s.enterIdle p) :=
  (s.work_setPortState p _).trans (State.work_grantHead _ _)

theorem State.work_enterSettling (s : State) (p : PortId) : s.Work hands (s.enterSettling p) := by
  unfold State.enterSettling
  dsimp only
  split
  · exact (s.work_setPortState p _).trans (State.work_enterIdle _ p)
  · exact (s.work_setPortState p _).trans (State.work_mapPort _ p _)

/-! ## Cuts and revokes -/

theorem State.work_cutInbound (s : State) (p : PortId) (b : BufId) : s.Work hands (s.cutInbound p b) := by
  unfold State.cutInbound
  split
  · exact .refl
  · exact s.work_mapPort p _
  · split
    · exact (State.Effect.unhand _ _).work.trans (State.work_mapPort _ p _)
    · exact .refl

theorem State.work_cut (s : State) (p : PortId) : s.Work hands (s.cut p) :=
  ((s.work_cutInbound p _).trans (State.work_cutInbound _ p _)).trans (State.work_mapPort _ p _)

theorem State.work_afterCut (s : State) (p : PortId) : s.Work hands (s.afterCut p) := by
  unfold State.afterCut
  split
  · exact s.work_enterSettling p
  · exact s.work_setPortState p _

theorem State.work_afterRevoke (s : State) (p : PortId) (why : RevokeReason) : s.Work hands (s.afterRevoke p why) := by
  unfold State.afterRevoke
  split
  case h_3 => exact .refl
  case h_1 | h_2 => exact s.work_setPortState p _
  all_goals exact s.work_afterCut p

theorem State.work_noticeRevoked (s : State) (r : Resource) (h : Holding) (why : RevokeReason) :
    s.Work hands (s.noticeRevoked r h why) := by
  unfold State.noticeRevoked
  split
  · exact (State.Effect.notice _ _).work
  · exact .refl

/-- What follows the free lease in a revoke of a port. -/
theorem State.work_afterFree (s : State) (p : PortId) (h : Holding) (why : RevokeReason) :
    s.Work hands ((s.noticeRevoked (.port p) h why).afterRevoke p why) :=
  (s.work_noticeRevoked _ h why).trans (State.work_afterRevoke _ p why)

theorem State.work_revokePort (s : State) (p : PortId) (why : RevokeReason) : s.Work hands (s.revokePort p why) := by
  unfold State.revokePort
  split
  · exact .refl
  · exact ((s.work_cut p).trans (State.Effect.free _).work).trans (State.work_afterFree _ p _ why)

/-! ## Contacts -/

theorem State.work_setContact (s : State) (p : PortId) (c : ContactId) (x : Contact) :
    s.Work hands (s.setContact p c x) := s.work_mapPort p _

theorem State.work_queueReport (s : State) (k : LinkId) (r : Report) : s.Work hands (s.queueReport k r) :=
  (State.Effect.touch k r).work

theorem State.work_detach (s : State) (p : PortId) (z : ZoneId) (tell : Option LinkId) (c : ContactId) :
    s.Work hands (s.detach p z tell c) := by
  unfold State.detach
  dsimp only
  split
  · split
    · exact s.work_setContact p c _
    · exact (s.work_queueReport _ _).trans (State.work_setContact _ p c _)
  · exact .refl

theorem State.work_detachZone (s : State) (z : ZoneId) (tell : Option LinkId) : s.Work hands (s.detachZone z tell) :=
  State.work_foldl _ (fun t c => t.work_detach _ z tell c) _ _

theorem State.work_freeContact (s : State) (p : PortId) (c : ContactId) : s.Work hands (s.freeContact p c) := by
  unfold State.freeContact
  refine Relation.ReflTransGen.trans ?_ (State.work_setContact _ p c _)
  split
  · split
    · exact .refl
    · exact s.work_queueReport _ _
  · exact .refl
  · exact .refl

theorem State.work_panelLeavesIdle (s : State) (p : PortId) : s.Work hands (s.panelLeavesIdle p) :=
  (s.work_mapPort p _).trans (State.work_foldl _ (fun t c => t.work_freeContact p c) _ _)

theorem State.work_revokeZone (s : State) (z : ZoneId) (why : RevokeReason) : s.Work hands (s.revokeZone z why) := by
  unfold State.revokeZone
  split
  · exact .refl
  · exact (((s.work_detachZone z _).trans (State.Effect.free _).work).trans (State.work_noticeRevoked _ _ _ why)).trans
      (State.work_grantHead _ _)

theorem State.work_revoke (s : State) (r : Resource) (why : RevokeReason) : s.Work hands (s.revoke r why) := by
  cases r with
  | port p => exact s.work_revokePort p why
  | zone z => exact s.work_revokeZone z why

theorem State.work_dropWaits (s : State) (r : Resource) : s.Work hands (s.dropWaits r) :=
  (State.Effect.waits _ List.filter_sublist).work.trans
    (State.work_foldl _ (fun _ _ => (State.Effect.notice _ _).work) _ _)

/-! ## Teardown -/

theorem State.work_returnEntries (s : State) (es : List DataEntry) : s.Work hands (s.returnEntries es) :=
  State.work_foldl _ (fun t (e : DataEntry) => t.work_mapPort e.port _) _ _

theorem State.work_revokeIfHeldBy (s : State) (k : LinkId) (r : Resource) : s.Work hands (s.revokeIfHeldBy k r) := by
  unfold State.revokeIfHeldBy
  split
  · exact s.work_revoke r _
  · exact .refl

/-- The state in which the link itself is torn down, its buffers are back and its waits have left: what remains of a
teardown are the revokes. -/
def State.stripLink (s : State) (k : LinkId) : State :=
  let s1 := (s.mapLink k Link.tearDown).returnEntries (s.link k).dataQ
  s1.setWaits (s1.waits.filter (fun w => !(w.link == k)))

theorem State.tearDown_eq (s : State) (k : LinkId) :
    s.tearDown k = allResources.foldl (fun t r => t.revokeIfHeldBy k r) (s.stripLink k) := rfl

theorem State.work_stripLink (s : State) (k : LinkId) : (s.mapLink k Link.tearDown).Work hands (s.stripLink k) :=
  (State.work_returnEntries _ _).trans (State.Effect.waits _ List.filter_sublist).work

theorem State.work_revokes (s : State) (k : LinkId) (rs : List Resource) :
    s.Work hands (rs.foldl (fun t r => t.revokeIfHeldBy k r) s) :=
  State.work_foldl _ (fun t r => t.work_revokeIfHeldBy k r) _ _

theorem State.work_tearDown (s : State) (k : LinkId) : (s.mapLink k Link.tearDown).Work hands (s.tearDown k) := by
  rw [State.tearDown_eq]
  exact (s.work_stripLink k).trans (State.work_revokes _ k _)

/-! ## Touch reports -/

theorem State.work_stray (s : State) (p : PortId) (ph : Phase) (c : ContactId) (x y : Coord) :
    s.Work hands (s.stray p ph c x y) := by
  unfold State.stray
  split
  · exact .refl
  · exact s.work_queueReport _ _

theorem State.work_forward (s : State) (z : ZoneId) (p : PortId) (ph : Phase) (c : ContactId) (x y : Coord) :
    s.Work hands (s.forward z p ph c x y) := by
  unfold State.forward
  split
  · exact .refl
  · exact s.work_queueReport _ _

theorem State.work_lookUp (s : State) (p : PortId) (ph : Phase) (c : ContactId) (x y : Coord) :
    s.Work hands (s.lookUp p ph c x y) := by
  unfold State.lookUp
  split
  · exact (s.work_setContact p c _).trans (State.work_queueReport _ _ _)
  · exact ((s.work_setContact p c _).trans (State.work_mapPort _ p _)).trans (State.work_stray _ p ph c x y)

theorem State.work_handleReport (s : State) (p : PortId) (ph : Phase) (c : ContactId) (x y : Coord) :
    s.Work hands (s.handleReport p ph c x y) := by
  refine Relation.ReflTransGen.trans ?_ (State.work_setContact _ p c _)
  cases ph with
  | down =>
    refine Relation.ReflTransGen.trans ?_ (State.work_lookUp _ p .down c x y)
    split
    · split
      · exact .refl
      · exact s.work_queueReport _ _
    · exact .refl
    · exact .refl
  | move =>
    simp only [State.moveReport]
    split
    · exact s.work_forward _ p .move c x y
    · exact s.work_stray p .move c x y
    · exact s.work_lookUp p .move c x y
  | up =>
    simp only [State.upReport]
    split
    · exact (s.work_forward _ p .up c x y).trans (State.work_setContact _ p c _)
    · exact (s.work_stray p .up c x y).trans (State.work_setContact _ p c _)
    · exact s.work_mapPort p _

theorem State.work_completeReport (s : State) (p : PortId) (lead d1 d2 d3 d4 : Byte) :
    s.Work hands (s.completeReport p lead d1 d2 d3 d4) := by
  unfold State.completeReport
  split
  · exact (s.work_mapPort p _).trans (State.work_handleReport _ p _ _ _ _)
  · exact s.work_mapPort p _

theorem State.work_reportByte (s : State) (p : PortId) (lead : Byte) (data : List Byte) (b : Byte) :
    s.Work hands (s.reportByte p lead data b) := by
  unfold State.reportByte
  split
  · exact (s.work_mapPort p _).trans (State.work_completeReport _ p _ _ _ _ _)
  · exact s.work_mapPort p _

theorem State.work_panelByte (s : State) (p : PortId) (b : Byte) (error : Bool) :
    s.Work hands (s.panelByte p b error) := by
  unfold State.panelByte
  split
  · split
    · exact s.work_mapPort p _
    · unfold State.assembleByte
      split
      · split <;> exact s.work_mapPort p _
      · split
        · exact s.work_mapPort p _
        · exact s.work_reportByte p _ _ b
  · exact .refl

/-! ## Lines of a port -/

theorem State.work_goOffline (s : State) (p : PortId) : s.Work hands (s.goOffline p) :=
  (s.work_mapPort p _).trans (State.work_setPortState _ p _)

theorem State.work_panelFollows (s : State) (p : PortId) (was : Bool) : s.Work hands (s.panelFollows p was) := by
  unfold State.panelFollows
  dsimp only
  split
  case h_1 =>
    split
    · exact s.work_enterIdle p
    · exact .refl
  case h_2 =>
    split
    · exact (s.work_panelLeavesIdle p).trans (State.work_setPortState _ p _)
    · exact .refl
  all_goals exact .refl

theorem State.work_readyMoves (s : State) (p : PortId) (level was : Bool) :
    s.Work hands (s.readyMoves p level was) := by
  unfold State.readyMoves
  dsimp only
  split
  case h_1 => exact .refl
  case h_2 =>
    split
    · exact s.work_enterIdle p
    · exact .refl
  case h_3 | h_4 =>
    split
    · exact s.work_goOffline p
    · exact .refl
  all_goals
    split
    · exact .refl
    · exact s.work_revokePort p _

theorem State.work_takeReady (s : State) (p : PortId) : s.Work hands (s.takeReady p) := by
  unfold State.takeReady
  dsimp only
  split
  · exact s.work_mapPort p _
  · split
    · exact (s.work_mapPort p _).trans (State.work_readyMoves _ p _ _)
    · exact (s.work_mapPort p _).trans (State.work_panelFollows _ p _)

theorem State.work_tellHolder (s : State) (p : PortId) (body : NoticeBody) : s.Work hands (s.tellHolder p body) := by
  unfold State.tellHolder
  split
  · exact .refl
  · exact (State.Effect.notice _ _).work

theorem State.work_suspend (s : State) (p : PortId) : s.Work hands (s.suspend p) :=
  (((s.work_mapPort p _).trans (State.work_setPortState _ p _)).trans (State.work_tellHolder _ p _)).trans
    (State.work_mapPort _ p _)

theorem State.work_faultStrikes (s : State) (p : PortId) : s.Work hands (s.faultStrikes p) := by
  unfold State.faultStrikes
  split
  · exact s.work_revokePort p _
  · exact s.work_suspend p

end

/-! ## Inbound data and the end of a job -/

/-- A resource with a holding has its link as holder. -/
theorem State.holder_eq_some (s : State) (r : Resource) (k : LinkId) :
    s.holder r = some k ↔ ∃ h : Holding, (s.lease r).holding = some h ∧ h.link = k := by
  simp [State.holder]

theorem State.work_handTo (s : State) (p : PortId) (b : BufId) (bytes : List Byte) {r : Resource} {k : LinkId}
    (holder : s.holder r = some k) : s.Work True (s.handTo p b bytes k) :=
  (State.Effect.hand k r _ trivial holder).work.trans (State.work_mapPort _ p _)

theorem State.work_handFilling (s : State) (p : PortId) : s.Work True (s.handFilling p) := by
  unfold State.handFilling
  split
  · next b bytes k _ holder =>
    split
    · exact .refl
    · exact (s.work_handTo p b bytes holder).trans (State.work_mapPort _ p _)
  · exact .refl

/-- The first step of the end of a job: the filling buffer goes to the holder, or is free when it is empty. -/
def State.handLast (s : State) (p : PortId) : State :=
  match (s.port p).filling, s.holder (.port p) with
  | some (b, bytes), some k =>
    if bytes.isEmpty then s.mapPort p (fun x => x.setInb b .free) else s.handTo p b bytes k
  | some (b, _), none => s.mapPort p (fun x => x.setInb b .free)
  | none, _ => s

/-- What a port keeps for its job goes, and the job counts as completed. -/
def Port.completeJob (x : Port) : Port :=
  x.closeJob.mapCounters (fun c => { c with jobsCompleted := bump c.jobsCompleted })

theorem State.endJob_eq (s : State) (p : PortId) :
    s.endJob p = (((s.handLast p).mapPort p Port.completeJob).setLease (.port p) .free).enterSettling p := by
  unfold State.endJob State.handLast
  rfl

theorem State.work_handLast (s : State) (p : PortId) : s.Work True (s.handLast p) := by
  unfold State.handLast
  split
  · next b bytes k _ holder =>
    split
    · exact s.work_mapPort p _
    · exact s.work_handTo p b bytes holder
  · exact s.work_mapPort p _
  · exact .refl

theorem State.work_endJob (s : State) (p : PortId) : s.Work True (s.endJob p) := by
  rw [State.endJob_eq]
  exact (((s.work_handLast p).trans (State.work_mapPort _ p _)).trans (State.Effect.free _).work).trans
    (State.work_enterSettling _ p)

theorem State.work_completeDrain (s : State) (p : PortId) : s.Work True (s.completeDrain p) := by
  unfold State.completeDrain
  split
  · exact s.work_endJob p
  · exact (State.Effect.notice _ _).work.trans (State.work_endJob _ p)

theorem State.work_resume (s : State) (p : PortId) : s.Work True (s.resume p) := by
  unfold State.resume
  dsimp only
  have told : s.Work True (((s.mapPort p (fun y => { y with remembered := none, graceTimer := none })).setPortState p
      ((s.port p).remembered.getD .opened)).tellHolder p .resumed) :=
    ((s.work_mapPort p _).trans (State.work_setPortState _ p _)).trans (State.work_tellHolder _ p _)
  split
  · exact told.trans (State.work_completeDrain _ p)
  · exact told.trans (State.work_mapPort _ p _)

theorem State.work_faultMoves (s : State) (p : PortId) (level was : Bool) : s.Work True (s.faultMoves p level was) := by
  unfold State.faultMoves
  dsimp only
  split
  case h_1 => exact .refl
  case h_2 =>
    split
    · exact s.work_enterIdle p
    · exact .refl
  case h_3 | h_4 =>
    split
    · exact s.work_goOffline p
    · exact .refl
  case h_5 | h_6 =>
    split
    · exact s.work_faultStrikes p
    · exact .refl
  case h_7 =>
    split
    · exact s.work_resume p
    · exact .refl

theorem State.work_takeFault (s : State) (p : PortId) : s.Work True (s.takeFault p) := by
  unfold State.takeFault
  dsimp only
  split
  · exact s.work_mapPort p _
  · split
    · exact (s.work_mapPort p _).trans (State.work_faultMoves _ p _ _)
    · exact (s.work_mapPort p _).trans (State.work_panelFollows _ p _)

/-! ## Characters of a port line -/

theorem State.work_dataByte (s : State) (p : PortId) (b : Byte) : s.Work True (s.dataByte p b) := by
  unfold State.dataByte
  split
  · unfold State.storeByte
    split
    · exact s.work_mapPort p _
    · dsimp only
      split
      · exact (s.work_mapPort p _).trans (State.work_handFilling _ p)
      · exact (s.work_mapPort p _).trans (State.work_mapPort _ p _)
  · exact s.work_mapPort p _

theorem State.work_jobByte (s : State) (p : PortId) (b : Byte) (error : Bool) : s.Work True (s.jobByte p b error) := by
  unfold State.jobByte
  dsimp only
  split
  · split
    · exact s.work_mapPort p _
    · split
      · exact s.work_mapPort p _
      · split
        · exact (s.work_mapPort p _).trans (State.work_dataByte _ p b)
        · exact s.work_dataByte p b
  · exact s.work_dataByte p b

theorem State.work_takeCharacter (s : State) (p : PortId) (c : RxChar) : s.Work True (s.takeCharacter p c) := by
  unfold State.takeCharacter
  dsimp only
  split
  · exact (s.work_mapPort p _).trans (State.work_mapPort _ p _)
  · split
    · exact ((s.work_mapPort p _).trans (State.work_mapPort _ p _)).trans (State.work_jobByte _ p _ _)
    · exact ((s.work_mapPort p _).trans (State.work_mapPort _ p _)).trans (State.work_panelByte _ p _ _)

theorem State.work_noticeCredit (s : State) (p : PortId) : s.Work True (s.noticeCredit p) := by
  unfold State.noticeCredit
  split
  · exact (State.Effect.notice _ _).work
  · exact .refl
  · exact .refl

theorem State.work_drain (s : State) (p : PortId) (b : BufId) : s.Work True (s.drain p b) := by
  unfold State.drain
  dsimp only
  split
  · exact ((s.work_mapPort p _).trans (State.work_noticeCredit _ p)).trans (State.work_completeDrain _ p)
  · exact ((s.work_mapPort p _).trans (State.work_noticeCredit _ p)).trans (State.work_mapPort _ p _)

theorem State.work_characterDone (s : State) (p : PortId) : s.Work True (s.characterDone p) := by
  unfold State.characterDone
  dsimp only
  split
  case h_4 =>
    split
    · exact s.work_mapPort p _
    · split
      · exact (s.work_mapPort p _).trans (State.work_mapPort _ p _)
      · exact (s.work_mapPort p _).trans (State.work_drain _ p _)
  all_goals exact s.work_mapPort p _

theorem State.work_portBoundary (s : State) (p : PortId) (busy : Bool) : s.Work True (s.portBoundary p busy) :=
  ((s.work_mapPort p _).trans (State.work_characterDone _ p)).trans (State.work_mapPort _ p _)

end Sys2Proof.Machine
end

section
/-! PROOF. What one step of the part can do, said once: a step is a chain of moves, and an invariant that every move keeps
is kept by every step. -/

namespace Sys2Proof.Machine

/-! ## Requests -/

/-- t is s after a request of link k has been performed, whatever its answer. -/
inductive State.Serves (k : LinkId) (s : State) : State → Prop
  | nothing : s.Serves k s
  | grant (r : Resource) (tag : Byte) (grantable : s.grantable r = true) :
      s.Serves k (s.grant r ⟨k, s.cls k, tag⟩)
  | wait (r : Resource) (tag : Byte) (notWaiting : s.waitsOn k r = false) (notGrantable : s.grantable r = false)
      (mine : (s.waits.filter (fun w => w.link == k)).length < 4) (pool : s.waits.length < 24) :
      s.Serves k (s.setWaits (insertWait ⟨k, r, s.cls k, tag⟩ s.waits))
  | releaseZone (z : ZoneId) (h : Holding) (held : s.lease (.zone z) = .held h) : s.Serves k (s.releaseZone k z)
  | releaseSuspended (p : PortId) (h : Holding) (held : s.lease (.port p) = .held h) :
      s.Serves k (((s.cut p).setLease (.port p) .free).setPortState p .offline)
  | releaseDrained (p : PortId) (h : Holding) (held : s.lease (.port p) = .held h) : s.Serves k (s.endJob p)
  | releaseClosing (p : PortId) (h : Holding) (held : s.lease (.port p) = .held h) :
      s.Serves k (((s.setLease (.port p) (.releasing h)).setPortState p .closing).mapPort p Port.judge)
  | withdraw (r : Resource) : s.Serves k (s.removeWait k r)
  | stage (p : PortId) (payload : List Byte) (credit : (s.port p).credit ≠ 0) :
      s.Serves k (s.mapPort p (Port.stage payload))
  | loadWindow (i : WindowId) (w : Window) : s.Serves k (s.setWindow i w)
  | loadZone (z : ZoneId) (x : Zone) (free : s.lease (.zone z) = .free) : s.Serves k (s.replaceZone z x)
  | loadPort (p : PortId) (x : PortProfile) (disabled : (s.port p).state = .disabled) :
      s.Serves k (s.mapPort p (Port.load x))
  | loadLink (j : LinkId) (x : LinkProfile) (manageable : s.locksOut j x = false) :
      s.Serves k (s.replaceLink k j x).1
  | setReport (v : Option LinkId) : s.Serves k (s.setReportLink v)
  | clearLink (j : LinkId) : s.Serves k (s.mapLink j (fun l => l.mapCounters (fun _ => LinkCounters.zero)))
  | clearPort (p : PortId) : s.Serves k (s.mapPort p (fun x => x.mapCounters (fun _ => PortCounters.zero)))
  | revoke (r : Resource) : s.Serves k (s.revoke r (.cause .managed))
  | enable (p : PortId) (disabled : (s.port p).state = .disabled) : s.Serves k (s.enable p)
  | disable (p : PortId) : s.Serves k (s.disable p)
  | restart : s.Serves k s.beginRestart

section
variable (k : LinkId) (s : State)

theorem State.serves_claim (r : Resource) (wait : Bool) (tag : Byte) : s.Serves k (s.claim k r wait tag).state := by
  unfold State.claim
  split
  · exact .nothing
  next situation =>
  have notWaiting : s.waitsOn k r = false := by simp_all
  split
  · exact .nothing
  split
  · next grantable => exact .grant r tag grantable
  next notGrantable =>
  split
  · unfold State.makeWait
    split
    · exact .nothing
    next mine =>
    split
    · exact .nothing
    next pool => exact .wait r tag notWaiting (by simpa using notGrantable) (Nat.not_le.1 mine) (Nat.not_le.1 pool)
  · split <;> exact .nothing

theorem State.serves_performClaim (r : Resource) (rights : Rights) (wait : Bool) (tag : Byte) :
    s.Serves k (State.performClaim k r rights wait tag s).state := by
  unfold State.performClaim
  split
  · exact .nothing
  · split
    · exact .nothing
    · exact s.serves_claim k r wait tag

theorem State.serves_releaseWait (r : Resource) : s.Serves k (s.releaseWait k r).state := by
  unfold State.releaseWait
  split
  · exact .withdraw r
  · exact .nothing

theorem State.serves_releasePort (p : PortId) (h : Holding) (held : s.lease (.port p) = .held h) :
    s.Serves k (s.releasePort p h).state := by
  unfold State.releasePort
  dsimp only
  split
  · exact .releaseSuspended p h held
  · split
    · exact .releaseDrained p h held
    · exact .releaseClosing p h held

theorem State.serves_release (r : Resource) : s.Serves k (s.release k r).state := by
  unfold State.release
  split
  · split
    · exact .nothing
    · exact s.serves_releaseWait k r
  · next h held =>
    split
    · cases r with
      | port p => exact s.serves_releasePort k p h held
      | zone z =>
        dsimp only [Performed.answered]
        exact .releaseZone z h held
    · exact s.serves_releaseWait k r
  · exact s.serves_releaseWait k r

theorem State.serves_performRelease (r : Resource) (rights : Rights) :
    s.Serves k (State.performRelease k r rights s).state := by
  unfold State.performRelease
  split
  · exact .nothing
  · split
    · exact .nothing
    · exact s.serves_release k r

theorem State.serves_takeData (p : PortId) (payload : List Byte) : s.Serves k (s.takeData k p payload).state := by
  unfold State.takeData
  dsimp only
  split
  · exact .nothing
  · split <;> exact .nothing
  · split
    · split
      · exact .nothing
      · next credit => exact .stage p payload credit
    · exact .nothing

theorem State.serves_performData (r : Resource) (rights : Rights) (payload : List Byte) :
    s.Serves k (State.performData k r rights payload s).state := by
  unfold State.performData
  split
  · exact .nothing
  · cases r with
    | zone z => exact .nothing
    | port p =>
      dsimp only
      split
      · exact .nothing
      · split
        · exact .nothing
        · exact s.serves_takeData k p payload

theorem State.serves_performStatus (r : Resource) (rights : Rights) :
    s.Serves k (State.performStatus k r rights s).state := by
  unfold State.performStatus
  split <;> exact .nothing

/-! ## Management commands -/

theorem State.serves_loadWindow (ops : List Byte) : s.Serves k (s.loadWindow ops).state := by
  unfold State.loadWindow
  split
  · exact .nothing
  · split
    · exact .nothing
    · split
      · exact .nothing
      · exact .loadWindow _ _

theorem State.serves_loadZone (ops : List Byte) : s.Serves k (s.loadZone ops).state := by
  unfold State.loadZone
  split
  · exact .nothing
  · split
    · exact .nothing
    · next z _ =>
      split
      · exact .nothing
      · split
        · exact .nothing
        · next x _ notHeld =>
          have free : s.lease (.zone z) = .free := by
            cases lease : s.lease (.zone z) <;> simp_all [Lease.holding]
          exact .loadZone z x free

theorem State.serves_loadPort (ops : List Byte) : s.Serves k (s.loadPort ops).state := by
  unfold State.loadPort
  split
  · exact .nothing
  · split
    · exact .nothing
    · split
      · exact .nothing
      · split
        · next disabled => exact .loadPort _ _ disabled
        · exact .nothing

theorem State.serves_loadLink (ops : List Byte) : s.Serves k (State.loadLink k ops s).state := by
  unfold State.loadLink
  split
  · exact .nothing
  · split
    · exact .nothing
    · split
      · exact .nothing
      · split
        · exact .nothing
        · next notLocked => exact .loadLink _ _ (by simpa using notLocked)

theorem State.serves_setReport (ops : List Byte) : s.Serves k (s.setReport ops).state := by
  unfold State.setReport
  split
  · exact .nothing
  · split
    · exact .nothing
    · exact .setReport _

theorem State.serves_readIndexed {n : Nat} (ops : List Byte) (names : Fin n → Option Resource)
    (bytes : Fin n → List Byte) : s.Serves k (s.readIndexed ops names bytes).state := by
  unfold State.readIndexed
  split
  · exact .nothing
  · split <;> exact .nothing

theorem State.serves_readLease (ops : List Byte) : s.Serves k (s.readLease ops).state := by
  unfold State.readLease
  split
  · exact .nothing
  · split <;> exact .nothing

theorem State.serves_readCounts (ops : List Byte) : s.Serves k (s.readCounts ops).state := by
  unfold State.readCounts
  split
  · split
    · unfold State.readLinkCounts
      split
      · next clear _ _ =>
        cases clear
        · exact .nothing
        · exact .clearLink _
      · exact .nothing
    · split
      · unfold State.readPortCounts
        split
        · exact .nothing
        · split
          · exact .nothing
          · next clear _ =>
            cases clear
            · exact .nothing
            · exact .clearPort _
      · exact .nothing
  · exact .nothing

theorem State.serves_manageRevoke (ops : List Byte) : s.Serves k (s.manageRevoke ops).state := by
  unfold State.manageRevoke
  split
  · exact .nothing
  · split
    · exact .nothing
    · split
      · exact .revoke _
      · exact .nothing

theorem State.serves_enablePort (ops : List Byte) : s.Serves k (s.enablePort ops).state := by
  unfold State.enablePort
  split
  · exact .nothing
  · split
    · exact .nothing
    · split
      · next disabled => exact .enable _ disabled
      · exact .nothing

theorem State.serves_disablePort (ops : List Byte) : s.Serves k (s.disablePort ops).state := by
  unfold State.disablePort
  split
  · exact .nothing
  · split
    · exact .nothing
    · split
      · exact .nothing
      · exact .disable _

end

/-! ## Moves -/

/-- t is s after one event of port p, or after a line of p has moved. -/
inductive State.PortMove (p : PortId) (s : State) : State → Prop
  | readyLine (level : Bool) : s.PortMove p (s.mapPort p (Port.putReady level))
  | faultLine (level : Bool) : s.PortMove p (s.mapPort p (Port.putFault level))
  | ready : s.PortMove p (s.takeReady p)
  | fault : s.PortMove p (s.takeFault p)
  | idle : s.PortMove p (s.expireIdle p)
  | grace : s.PortMove p (s.expireGrace p)
  | stall : s.PortMove p (s.expireStall p)
  | turn : s.PortMove p (s.expireTurn p)
  | gather : s.PortMove p (s.expireGather p)
  | received (c : RxChar) : s.PortMove p (s.takeCharacter p c)
  | sent (busy : Bool) : s.PortMove p (s.portBoundary p busy)
  | busyNegated : s.PortMove p (s.mapPort p Port.busyNegated)

/-- One move of the part. A step is a chain of moves. -/
inductive State.Move (s : State) : State → Prop
  | commands (cs : List Instr) : s.Move { s with pending := cs }
  | choice (n : Nat) : s.Move { s with choices := n }
  | reset (t : State) (atReset : t.AtReset) : s.Move t
  | tick : s.Move s.tick
  | port (p : PortId) (t : State) (move : s.PortMove p t) : s.Move t
  | byte (k : LinkId) (b : Byte) (up : (s.link k).up = true) : s.Move (s.mapLink k (Link.receiveByte b))
  | presentLine (k : LinkId) (level : Bool) : s.Move (s.mapLink k (Link.putPresent level))
  | present (k : LinkId) : s.Move (s.takePresent k)
  | tearDown (k : LinkId) : s.Move (s.tearDown k)
  | sent (k : LinkId) : s.Move (s.mapLink k (fun l => { l with tx := .idleFill }))
  | finish (k : LinkId) : s.Move (s.finishEntry k)
  | boundary (k : LinkId) (holdIn : Bool) : s.Move (s.boundary k holdIn)
  | take (k : LinkId) (f : Frame) (fs : List Frame) (up : (s.link k).up = true) (stored : (s.link k).ingress = f :: fs) :
      s.Move (s.mapLink k (fun l => Link.judgeHold l.occupancy { l with ingress := fs }))
  | refuse (k : LinkId) (tag : Byte) (address : Word) (a : Answer) (up : (s.link k).up = true)
      (room : (s.link k).control.length < 8) : s.Move (s.mapLink k (Link.placeAnswer tag address a))
  | hold (k : LinkId) (h : Hand) (up : (s.link k).up = true) : s.Move (s.mapLink k (fun l => { l with hand := some h }))
  | notice (k : LinkId) (n : Notice) (ns : List Notice) (up : (s.link k).up = true)
      (pending : (s.link k).notices = n :: ns) (room : (s.link k).control.length < 8) :
      s.Move (s.mapLink k (fun l => { l with notices := ns, control := l.control ++ [⟨n.frame, none⟩] }))
  | serve (k : LinkId) (h : Hand) (r : Option Resource) (hand : (s.link k).hand = some h)
      (room : (s.link k).roomFor r = true) (u : State) (serves : (s.prepared k r).Serves k u) : s.Move u
  | answer (k : LinkId) (h : Hand) (r : Option Resource) (hand : (s.link k).hand = some h)
      (room : (s.link k).roomFor r = true) (u : State) (serves : (s.prepared k r).Serves k u) (a : Answer) :
      s.Move (u.answer k h a)

/-- A chain of moves. -/
abbrev State.Run : State → State → Prop := Relation.ReflTransGen State.Move

theorem State.Move.run {s t : State} (m : s.Move t) : s.Run t := .single m

section
variable {s : State} {k : LinkId}

theorem State.run_port {p : PortId} {t : State} (m : s.PortMove p t) : s.Run t := (State.Move.port p t m).run

theorem State.run_whenDue (d : Due) {t : State} (h : s.Run t) : s.Run (s.whenDue d t) := by
  unfold State.whenDue
  split
  · exact h
  · exact .refl

theorem State.run_handle (h : Hand) (r : Option Resource) {perform : State → Performed} (hand : (s.link k).hand = some h)
    (serves : ∀ t : State, t.Serves k (perform t).state) : s.Run (s.handle k h r perform) := by
  unfold State.handle
  split
  · next open_ =>
    have room : (s.link k).roomFor r = true := by simp_all
    dsimp only
    split
    · exact (State.Move.serve k h r hand room _ (serves _)).run
    · exact (State.Move.answer k h r hand room _ (serves _) _).run
  · exact .refl

theorem State.run_manage (cmd : MgmtCmd) {perform : List Byte → State → Performed}
    (serves : ∀ (ops : List Byte) (t : State), t.Serves k (perform ops t).state) : s.Run (s.manage k cmd perform) := by
  unfold State.manage
  split
  · next tag address c payload hand =>
    split
    · refine State.run_handle _ _ hand fun t => ?_
      split
      · exact serves _ t
      · exact .nothing
    · exact .refl
  · exact .refl

end

@[simp] theorem Link.up_withIngress (l : Link) (fs : List Frame) : ({ l with ingress := fs } : Link).up = l.up := rfl

@[simp] theorem Link.control_judgeHold (was : Nat) (l : Link) : (l.judgeHold was).control = l.control := by
  unfold Link.judgeHold
  split <;> rfl

theorem Link.freePlaces_pos (l : Link) : 1 ≤ l.freePlaces ↔ l.control.length < 8 := by
  simp only [Link.freePlaces, Config.controlPlaces]
  omega

theorem State.canTake_gives {s : State} {k : LinkId} (h : s.canTake k = true) :
    (s.link k).up = true ∧ (s.link k).control.length < 8 := by
  simp only [State.canTake, Bool.and_eq_true, decide_eq_true_eq, Link.freePlaces_pos] at h
  tauto

theorem Link.canMove_gives {l : Link} (h : l.canMove = true) : l.up = true ∧ l.control.length < 8 := by
  simp only [Link.canMove, Bool.and_eq_true, decide_eq_true_eq] at h
  obtain ⟨⟨⟨up, -⟩, places⟩, -⟩ := h
  exact ⟨up, l.freePlaces_pos.1 (by omega)⟩

/-! ## Resets -/

/-- Whatever its transmitter, a port at its reset values is at its reset values. -/
theorem Port.AtReset.withTx {x : Port} (h : x.AtReset) (tx : PortTx) (bits : List Bool) (format : LineFormat) :
    ({ x with tx := tx, txBits := bits, txFormat := format } : Port).AtReset :=
  ⟨h.profile, h.state, h.timers, h.flow, h.outputs, h.outbound, h.inbound, h.panel, h.counters⟩

/-- Whatever its transmitter, a link at its reset values is at its reset values. -/
theorem Link.AtReset.withTx {l : Link} {mgmt : Bool} (h : l.AtReset mgmt) (tx : LinkTx) :
    ({ l with tx := tx } : Link).AtReset mgmt :=
  ⟨h.profile, h.selfDisable, h.receiver, h.rates, h.ingress, h.marks, h.holdOut, h.queues, h.hand, h.notices, h.counters⟩

theorem atReset_pinReset (s : State) : s.pinReset.AtReset := by
  refine atReset_inReset _ (atReset_resetBy s _ _ (fun k l => ?_) (fun p x => atReset_portResetAt _ _ _ _ _)) true
  exact (atReset_resetAt _ _ _ _).withTx .rest

theorem atReset_resetEnd (s : State) (v : Levels) : (s.resetEnd v).AtReset :=
  atReset_resetBy s _ _ (fun _ _ => atReset_resetAt _ _ _ _) (fun _ _ => atReset_portResetAt _ _ _ _ _)

theorem atReset_restartReset (s : State) : s.restartReset.AtReset :=
  atReset_resetBy s _ _ (fun _ _ => atReset_resetAt _ _ _ _) (fun _ _ => (atReset_portResetAt _ _ _ _ _).withTx _ _ _)

/-! ## Steps -/

section
variable {s t : State} {k : LinkId}

/-- A command of the running part brings its event, or nothing while the part is held in reset. -/
theorem State.run_live {u : State} (h : s.live u = .next t) (run : s.Run u) : s.Run t := by
  unfold State.live at h
  split at h
  · cases h
    exact .refl
  · cases h
    exact run

theorem run_frameTaken (h : execFrameTaken k s = .next t) : s.Run t := by
  refine State.run_live h ?_
  split
  · exact .refl
  · next f fs stored =>
    split
    · next canTake =>
      obtain ⟨up, room⟩ := State.canTake_gives canTake
      refine Relation.ReflTransGen.trans (State.Move.take k f fs up stored).run ?_
      dsimp only
      split
      · exact (State.Move.refuse k _ _ _ (by simpa using up) (by simpa using room)).run
      · exact (State.Move.hold k _ (by simpa using up)).run
    · exact .refl

theorem run_noticeMove (h : execNoticeMove k s = .next t) : s.Run t := by
  refine State.run_live h ?_
  split
  · exact .refl
  · next n ns pending =>
    split
    · next canMove =>
      obtain ⟨up, room⟩ := Link.canMove_gives canMove
      exact (State.Move.notice k n ns up pending room).run
    · exact .refl

theorem run_completeFrame (source : TxSource) (holdIn : Bool) : s.Run (s.completeFrame k holdIn source) := by
  unfold State.completeFrame
  split
  case h_2 => exact (State.Move.finish k).run.trans (State.Move.boundary k holdIn).run
  case h_4 =>
    split
    · exact (State.Move.reset _ (atReset_restartReset s)).run
    · exact (State.Move.boundary k holdIn).run
  case h_5 =>
    split
    · exact (State.Move.tearDown k).run.trans (State.Move.boundary k holdIn).run
    · exact (State.Move.boundary k holdIn).run
  all_goals exact (State.Move.boundary k holdIn).run

/-- The events of port p that a command of p brings are a chain of moves at p. -/
theorem portRun_whenDue {p : PortId} (d : Due) {u : State} (m : s.PortMove p u) :
    Relation.ReflTransGen (State.PortMove p) s (s.whenDue d u) := by
  unfold State.whenDue
  split
  · exact .single m
  · exact .refl

theorem portRun_live {p : PortId} {u : State} (h : s.live u = .next t)
    (run : Relation.ReflTransGen (State.PortMove p) s u) : Relation.ReflTransGen (State.PortMove p) s t := by
  unfold State.live at h
  split at h
  · cases h
    exact .refl
  · cases h
    exact run

theorem portRun_exec {c : Instr} {p : PortId} (port : Instr.portOf c = some p) (h : exec c s = .next t) :
    Relation.ReflTransGen (State.PortMove p) s t := by
  cases c with
  | idleTimerExpiry q => cases port; exact portRun_live h (portRun_whenDue _ .idle)
  | graceTimerExpiry q => cases port; exact portRun_live h (portRun_whenDue _ .grace)
  | stallTimerExpiry q => cases port; exact portRun_live h (portRun_whenDue _ .stall)
  | turnaroundTimerExpiry q => cases port; exact portRun_live h (portRun_whenDue _ .turn)
  | gatherTimerExpiry q => cases port; exact portRun_live h (portRun_whenDue _ .gather)
  | portCharacterReceived q c => cases port; exact portRun_live h (.single (.received c))
  | portCharacterSent q busy => cases port; exact portRun_live h (.single (.sent busy))
  | busyNegated q => cases port; exact portRun_live h (.single .busyNegated)
  | readyChangeTaken q level =>
    cases port
    refine portRun_live h ?_
    split
    · exact portRun_whenDue _ .ready
    · exact (portRun_whenDue _ .ready).tail (.readyLine level)
  | faultChangeTaken q level =>
    cases port
    refine portRun_live h ?_
    split
    · exact portRun_whenDue _ .fault
    · exact (portRun_whenDue _ .fault).tail (.faultLine level)
  | _ => cases port

theorem State.run_of_portRun {p : PortId} (run : Relation.ReflTransGen (State.PortMove p) s t) : s.Run t :=
  run.lift id fun _ _ m => .port p _ m

theorem run_take (d : Due) : s.Run (d.take s) := by
  cases d with
  | present k => exact (State.Move.present k).run
  | selfDisable k => exact (State.Move.tearDown k).run
  | restart => exact (State.Move.reset _ (atReset_restartReset s)).run
  | ready p => exact State.run_port .ready
  | fault p => exact State.run_port .fault
  | idle p => exact State.run_port .idle
  | grace p => exact State.run_port .grace
  | stall p => exact State.run_port .stall
  | turn p => exact State.run_port .turn
  | gather p => exact State.run_port .gather

theorem run_exec (c : Instr) (h : exec c s = .next t) : s.Run t := by
  cases c with
  | linkByteReceived k b =>
    refine State.run_live h ?_
    split
    · next up => exact (State.Move.byte k b.data up).run
    · exact .refl
  | presentChangeTaken k level =>
    refine State.run_live h ?_
    have taken : s.Run (s.whenDue (.present k) (s.takePresent k)) := State.run_whenDue _ (State.Move.present k).run
    split
    · exact taken
    · exact taken.trans (State.Move.presentLine k level).run
  | idleCharacterEnd k holdIn =>
    refine State.run_live h ?_
    split
    · exact (State.Move.boundary k holdIn).run
    · exact .refl
    · exact .refl
  | linkFrameComplete k holdIn =>
    refine State.run_live h ?_
    split
    · exact .refl
    · exact .refl
    · exact (State.Move.sent k).run.trans (run_completeFrame _ holdIn)
  | frameTaken k => exact run_frameTaken h
  | noticeMove k => exact run_noticeMove h
  | claim k =>
    refine State.run_live h ?_
    split
    · next hand => exact State.run_handle _ _ hand fun t => t.serves_performClaim k _ _ _ _
    · exact .refl
  | release k =>
    refine State.run_live h ?_
    split
    · next hand => exact State.run_handle _ _ hand fun t => t.serves_performRelease k _ _
    · exact .refl
  | data k =>
    refine State.run_live h ?_
    split
    · next hand => exact State.run_handle _ _ hand fun t => t.serves_performData k _ _ _
    · exact .refl
  | status k =>
    refine State.run_live h ?_
    split
    · next hand => exact State.run_handle _ _ hand fun t => t.serves_performStatus k _ _
    · exact .refl
  | loadWindow k => exact State.run_live h (State.run_manage _ fun ops t => t.serves_loadWindow k ops)
  | loadZone k => exact State.run_live h (State.run_manage _ fun ops t => t.serves_loadZone k ops)
  | loadPort k => exact State.run_live h (State.run_manage _ fun ops t => t.serves_loadPort k ops)
  | loadLink k => exact State.run_live h (State.run_manage _ fun ops t => t.serves_loadLink k ops)
  | setReport k => exact State.run_live h (State.run_manage _ fun ops t => t.serves_setReport k ops)
  | readWindow k => exact State.run_live h (State.run_manage _ fun ops t => t.serves_readIndexed k ops _ _)
  | readZone k => exact State.run_live h (State.run_manage _ fun ops t => t.serves_readIndexed k ops _ _)
  | readPort k => exact State.run_live h (State.run_manage _ fun ops t => t.serves_readIndexed k ops _ _)
  | readLink k => exact State.run_live h (State.run_manage _ fun ops t => t.serves_readIndexed k ops _ _)
  | readLease k => exact State.run_live h (State.run_manage _ fun ops t => t.serves_readLease k ops)
  | readCounts k => exact State.run_live h (State.run_manage _ fun ops t => t.serves_readCounts k ops)
  | revoke k => exact State.run_live h (State.run_manage _ fun ops t => t.serves_manageRevoke k ops)
  | enablePort k => exact State.run_live h (State.run_manage _ fun ops t => t.serves_enablePort k ops)
  | disablePort k => exact State.run_live h (State.run_manage _ fun ops t => t.serves_disablePort k ops)
  | restart k => exact State.run_live h (State.run_manage _ fun _ _ => .restart)
  | restartTimeout => exact State.run_live h (State.run_whenDue _ (run_take .restart))
  | selfDisableTimeout k => exact State.run_live h (State.run_whenDue _ (run_take (.selfDisable k)))
  | pinReset =>
    cases h
    exact (State.Move.reset _ (atReset_pinReset s)).run
  | resetEnd v =>
    cases h
    split
    · exact (State.Move.reset _ (atReset_resetEnd s v)).run
    · exact .refl
  | idleTimerExpiry p => exact State.run_of_portRun (portRun_exec rfl h)
  | readyChangeTaken p level => exact State.run_of_portRun (portRun_exec rfl h)
  | faultChangeTaken p level => exact State.run_of_portRun (portRun_exec rfl h)
  | graceTimerExpiry p => exact State.run_of_portRun (portRun_exec rfl h)
  | stallTimerExpiry p => exact State.run_of_portRun (portRun_exec rfl h)
  | turnaroundTimerExpiry p => exact State.run_of_portRun (portRun_exec rfl h)
  | gatherTimerExpiry p => exact State.run_of_portRun (portRun_exec rfl h)
  | portCharacterReceived p c => exact State.run_of_portRun (portRun_exec rfl h)
  | portCharacterSent p busy => exact State.run_of_portRun (portRun_exec rfl h)
  | busyNegated p => exact State.run_of_portRun (portRun_exec rfl h)

theorem run_idleStep : s.Run s.idleStep := by
  unfold State.idleStep
  split
  · exact .refl
  · split
    · exact State.Move.tick.run
    · exact (State.Move.choice _).run.trans (run_take _)

/-- Every step is a chain of moves. -/
theorem run_step (h : step s = .next t) : s.Run t := by
  unfold step at h
  split at h
  · cases h
    exact run_idleStep
  · exact (State.Move.commands _).run.trans (run_exec _ h)

end

/-- What every move keeps, every step keeps. -/
theorem kept_of_move {I : State → Prop} (h : ∀ s t : State, s.Move t → I s → I t) : Kept I := by
  intro s t i stepped
  have run := run_step stepped
  clear stepped
  induction run with
  | refl => exact i
  | tail _ last ih => exact h _ _ last ih

end Sys2Proof.Machine
end

section
/-! PROOF. What a move does to the links: work of the engines, or a change of one link; and the invariants that speak of
each link alone follow from what keeps them at a link. -/

namespace Sys2Proof.Machine

/-! ## Moves of a port are work -/

theorem State.PortMove.work {p : PortId} {s t : State} (m : s.PortMove p t) : s.Work True t := by
  cases m with
  | readyLine level => exact s.work_mapPort p _
  | faultLine level => exact s.work_mapPort p _
  | ready => exact s.work_takeReady p
  | fault => exact s.work_takeFault p
  | idle => exact (s.work_mapPort p _).trans (State.work_revokePort _ p _)
  | grace => exact (s.work_mapPort p _).trans (State.work_revokePort _ p _)
  | stall => exact (s.work_mapPort p _).trans (State.work_revokePort _ p _)
  | turn =>
    unfold State.expireTurn
    dsimp only
    split
    · exact (s.work_mapPort p _).trans (State.work_enterIdle _ p)
    · exact s.work_mapPort p _
  | gather => exact (s.work_mapPort p _).trans (State.work_handFilling _ p)
  | received c => exact s.work_takeCharacter p c
  | sent busy => exact s.work_portBoundary p busy
  | busyNegated => exact s.work_mapPort p _

/-! ## Changes of one link -/

theorem State.mapLink_mapLink (s : State) (k : LinkId) (f g : Link → Link) :
    (s.mapLink k f).mapLink k g = s.mapLink k (fun l => g (f l)) := by
  simp [State.mapLink]

/-! ### A link torn down (R10, R34) -/

section
variable (l : Link)

@[simp] theorem Link.control_tearDown : l.tearDown.control = [] := rfl
@[simp] theorem Link.touch_tearDown : l.tearDown.touch = [] := rfl
@[simp] theorem Link.dataQ_tearDown : l.tearDown.dataQ = [] := rfl
@[simp] theorem Link.hand_tearDown : l.tearDown.hand = none := rfl
@[simp] theorem Link.notices_tearDown : l.tearDown.notices = [] := rfl
@[simp] theorem Link.holdOut_tearDown : l.tearDown.holdOut = false := rfl

@[simp] theorem Link.rx_tearDown : l.tearDown.rx = .hunt := by
  unfold Link.tearDown Link.leaveFrame
  dsimp only
  rw [Link.rx_judgeHold]
  split <;> split <;> rfl

@[simp] theorem Link.ingress_tearDown : l.tearDown.ingress = [] := by
  unfold Link.tearDown Link.leaveFrame
  dsimp only
  rw [Link.ingress_judgeHold]
  split <;> split <;> rfl

@[simp] theorem Link.profile_tearDown : l.tearDown.profile = l.profile := by
  unfold Link.tearDown Link.leaveFrame
  dsimp only
  rw [Link.profile_judgeHold]
  split <;> split <;> rfl

@[simp] theorem Link.counters_tearDown : l.tearDown.counters = l.counters := by
  unfold Link.tearDown Link.leaveFrame
  dsimp only
  rw [Link.counters_judgeHold]
  split <;> split <;> rfl

/-- A link torn down is UP only while its present state is asserted and its profile enabled. -/
@[simp] theorem Link.up_tearDown : l.tearDown.up = (l.present && l.profile.enabled) := by
  have before (m : Link) (was : Nat) : ({ m.judgeHold was with
      holdOut := false, control := [], touch := [], dataQ := [], hand := none, notices := [] } : Link).up =
      (m.judgeHold was).up := rfl
  unfold Link.tearDown Link.leaveFrame
  dsimp only
  rw [before, Link.up_judgeHold]
  split <;> split <;> simp [Link.up]

/-- The frame in transmission is abandoned (R34). -/
theorem Link.tx_tearDown (h : l.tx ≠ .rest) : l.tearDown.tx = .idleFill := by
  have kept (m : Link) (was : Nat) : (m.judgeHold was).tx = m.tx := by
    unfold Link.judgeHold
    split <;> rfl
  have left : (({ l with ingress := [], selfDisable := none } : Link).leaveFrame .hunt).tx = l.tx := by
    unfold Link.leaveFrame
    split <;> rfl
  unfold Link.tearDown
  dsimp only
  rw [kept]
  split
  · rfl
  · next idle => exact idle
  · next rest => exact absurd (left.symm.trans rest) h

end

/-! ### Present state and profile -/

/-- What taking a change of the present state does to the link itself. -/
def Link.presented (l : Link) : Link :=
  if l.up && !l.takePresent.up then l.takePresent.tearDown
  else if !l.up && l.takePresent.up then l.takePresent.comeUp
  else l.takePresent

section
variable {s : State} {k : LinkId}

/-- An UP link whose present state becomes negated is torn down (R34). -/
theorem State.takePresent_down (was : (s.link k).up = true) (down : (s.link k).takePresent.up = false) :
    s.takePresent k = (s.mapLink k Link.takePresent).tearDown k := by
  simp [State.takePresent, was, down]

/-- A link that is then UP comes up (R33). -/
theorem State.takePresent_up (was : (s.link k).up = false) (up : (s.link k).takePresent.up = true) :
    s.takePresent k = s.mapLink k (fun l => l.takePresent.comeUp) := by
  simp [State.takePresent, was, up, State.mapLink_mapLink]

/-- A link that stays UP or DOWN only has the level (R9). -/
theorem State.takePresent_same (same : (s.link k).takePresent.up = (s.link k).up) :
    s.takePresent k = s.mapLink k Link.takePresent := by
  simp [State.takePresent, same]

theorem State.work_takePresent (s : State) (k : LinkId) :
    (s.mapLink k Link.presented).Work False (s.takePresent k) := by
  cases was : (s.link k).up <;> cases up : (s.link k).takePresent.up
  · rw [State.takePresent_same (up.trans was.symm),
      State.mapLink_eq_setLink (show (s.link k).presented = (s.link k).takePresent by simp [Link.presented, was, up])]
    exact .refl
  · rw [State.takePresent_up was up, State.mapLink_eq_setLink
      (show (s.link k).presented = (s.link k).takePresent.comeUp by simp [Link.presented, was, up])]
    exact .refl
  · have torn : s.mapLink k Link.presented = (s.mapLink k Link.takePresent).mapLink k Link.tearDown := by
      rw [State.mapLink_mapLink, State.mapLink_eq_setLink
        (show (s.link k).presented = (s.link k).takePresent.tearDown by simp [Link.presented, was, up]), State.mapLink]
    rw [State.takePresent_down was up, torn]
    exact State.work_tearDown _ k
  · rw [State.takePresent_same (up.trans was.symm),
      State.mapLink_eq_setLink (show (s.link k).presented = (s.link k).takePresent by simp [Link.presented, was, up])]
    exact .refl

end

/-- What a LOAD_LINK does to the link loaded; `own` when it is the link of the command. -/
def Link.replaced (own : Bool) (x : LinkProfile) (l : Link) : Link :=
  if x.enabled = l.profile.enabled then l.loadProfile x
  else if x.enabled then (l.loadProfile x).enable
  else if own then { l.loadProfile x with selfDisable := some (.running 0) }
  else if l.up then (l.loadProfile x).tearDown
  else l.loadProfile x

section
variable {s : State} {k j : LinkId} {x : LinkProfile}

theorem State.replaceLink_same (same : x.enabled = (s.link j).profile.enabled) :
    s.replaceLink k j x = (s.mapLink j (Link.loadProfile x), none) := by
  simp [State.replaceLink, same]

theorem State.replaceLink_enables (changed : x.enabled ≠ (s.link j).profile.enabled) (enabled : x.enabled = true) :
    s.replaceLink k j x = (s.mapLink j (fun l => (l.loadProfile x).enable), none) := by
  rw [enabled] at changed
  simp [State.replaceLink, changed, enabled, State.mapLink_mapLink]

theorem State.replaceLink_own (changed : x.enabled ≠ (s.link k).profile.enabled) (disabled : x.enabled = false) :
    s.replaceLink k k x =
      (s.mapLink k (fun l => { l.loadProfile x with selfDisable := some (.running 0) }), some .selfDisable) := by
  rw [disabled] at changed
  simp [State.replaceLink, changed, disabled, State.mapLink_mapLink]

theorem State.replaceLink_disables (changed : x.enabled ≠ (s.link j).profile.enabled) (disabled : x.enabled = false)
    (other : j ≠ k) (up : (s.link j).up = true) :
    s.replaceLink k j x = ((s.mapLink j (Link.loadProfile x)).tearDown j, none) := by
  rw [disabled] at changed
  simp [State.replaceLink, changed, disabled, other, up]

theorem State.replaceLink_down (changed : x.enabled ≠ (s.link j).profile.enabled) (disabled : x.enabled = false)
    (other : j ≠ k) (down : (s.link j).up = false) :
    s.replaceLink k j x = (s.mapLink j (Link.loadProfile x), none) := by
  rw [disabled] at changed
  simp [State.replaceLink, changed, disabled, other, down]

theorem State.work_replaceLink (s : State) (k j : LinkId) (x : LinkProfile) :
    (s.mapLink j (Link.replaced (decide (j = k)) x)).Work False (s.replaceLink k j x).1 := by
  have eq {m : Link} (h : (s.link j).replaced (decide (j = k)) x = m) :
      s.mapLink j (Link.replaced (decide (j = k)) x) = s.setLink j m := State.mapLink_eq_setLink h
  by_cases same : x.enabled = (s.link j).profile.enabled
  · rw [State.replaceLink_same same, eq (if_pos same)]
    exact .refl
  cases enabled : x.enabled with
  | true =>
    rw [State.replaceLink_enables same enabled, eq ((if_neg same).trans (if_pos enabled))]
    exact .refl
  | false =>
    have notEnabled : ¬x.enabled = true := by simp [enabled]
    by_cases own : j = k
    · subst own
      rw [State.replaceLink_own same enabled,
        eq ((if_neg same).trans ((if_neg notEnabled).trans (if_pos (decide_eq_true rfl))))]
      exact .refl
    have notOwn : ¬decide (j = k) = true := by simpa using own
    cases up : (s.link j).up with
    | true =>
      have torn : (s.link j).replaced (decide (j = k)) x = ((s.link j).loadProfile x).tearDown := by
        simp only [Link.replaced, if_neg same, if_neg notEnabled, if_neg notOwn, if_pos up]
      have twice : s.setLink j ((s.link j).loadProfile x).tearDown =
          (s.mapLink j (Link.loadProfile x)).mapLink j Link.tearDown := by
        rw [State.mapLink_mapLink, State.mapLink]
      rw [State.replaceLink_disables same enabled own up, eq torn, twice]
      dsimp only
      exact State.work_tearDown _ j
    | false =>
      have loaded : (s.link j).replaced (decide (j = k)) x = (s.link j).loadProfile x := by
        simp [Link.replaced, notEnabled, own, up]
      rw [State.replaceLink_down same enabled own up, eq loaded]
      exact .refl

end

/-- Without handing is with handing. -/
theorem State.Work.hands {s t : State} (w : s.Work False t) : s.Work True t := by
  refine w.lift id fun a b e => ?_
  cases e with
  | port p x => exact .port p x
  | zone z x => exact .zone z x
  | window i w => exact .window i w
  | report v => exact .report v
  | free r => exact .free r
  | seat w m => exact .seat w m
  | closing p h e => exact .closing p h e
  | waits ws e => exact .waits ws e
  | notice k n => exact .notice k n
  | withdraw k f => exact .withdraw k f
  | touch k r => exact .touch k r
  | hand k r e no => exact no.elim
  | unhand k f => exact .unhand k f

/-- A boundary at a link (R17, R23, R30): frames leave the control and the touch queue, and beside the transmitter nothing
else changes. -/
theorem State.boundary_eq (s : State) (k : LinkId) (holdIn : Bool) :
    ∃ (control : List ControlFrame) (touch : List Report) (tx : LinkTx) (rate : LinkRate),
      control.Sublist (s.link k).control ∧ touch.Sublist (s.link k).touch ∧
      s.boundary k holdIn = s.setLink k { s.link k with
        control := control, touch := touch, tx := tx, holdInPin := holdIn, txRate := rate, txNewRate := none } := by
  unfold State.boundary
  dsimp only
  split
  · unfold State.chooseFrame
    rw [State.mapLink_mapLink]
    cases control : (s.link k).control with
    | cons c cs =>
      exact ⟨cs, _, _, _, List.sublist_cons_self c cs, List.Sublist.refl _,
        State.mapLink_eq_setLink (by simp only [control]; rfl)⟩
    | nil =>
      cases touch : (s.link k).touch with
      | cons r rs =>
        exact ⟨[], rs, _, _, List.Sublist.refl _, List.sublist_cons_self r rs,
          State.mapLink_eq_setLink (by simp only [control, touch]; rfl)⟩
      | nil =>
        cases data : (s.link k).dataQ with
        | cons e es =>
          exact ⟨[], [], _, _, List.Sublist.refl _, List.Sublist.refl _,
            State.mapLink_eq_setLink (by simp only [control, touch, data]; rfl)⟩
        | nil =>
          exact ⟨[], [], _, _, List.Sublist.refl _, List.Sublist.refl _,
            State.mapLink_eq_setLink (by simp only [control, touch, data]; rfl)⟩
  · exact ⟨_, _, _, _, List.Sublist.refl _, List.Sublist.refl _, State.mapLink_eq_setLink rfl⟩

/-! ## Requests -/

/-- A report link is set by withdrawals and entries of notices. -/
theorem State.work_setReportLink (s : State) (v : Option LinkId) : s.Work True (s.setReportLink v) := by
  have withdrawn : s.Work True s.withdrawPortStates := by
    unfold State.withdrawPortStates
    split
    · exact .refl
    · exact (State.Effect.withdraw _ _).work
  have set : s.Work True { s.withdrawPortStates with reportLink := v } := withdrawn.trans (State.Effect.report v).work
  unfold State.setReportLink
  dsimp only
  split
  · exact set
  · exact set.trans (State.work_foldl _ (fun _ _ => (State.Effect.notice _ _).work) _ _)

theorem State.work_enable (s : State) (p : PortId) : s.Work True (s.enable p) := by
  unfold State.enable
  cases (s.port p).profile.kind with
  | job =>
    dsimp only
    split
    · exact (s.work_mapPort p _).trans (State.work_enterIdle _ p)
    · exact (s.work_mapPort p _).trans (State.work_setPortState _ p _)
  | panel =>
    dsimp only
    split
    · exact s.work_enterIdle p
    · exact s.work_setPortState p _

theorem State.work_disable (s : State) (p : PortId) : s.Work True (s.disable p) := by
  unfold State.disable
  split
  · exact (((s.work_revokePort p _).trans (State.work_dropWaits _ _)).trans (State.work_mapPort _ p _)).trans
      (State.work_setPortState _ p _)
  · unfold State.disablePanel
    split
    · exact (s.work_panelLeavesIdle p).trans (State.work_setPortState _ p _)
    · exact s.work_setPortState p _

theorem State.work_replaceZone (s : State) (z : ZoneId) (x : Zone) : s.Work True (s.replaceZone z x) := by
  unfold State.replaceZone
  dsimp only
  split
  · exact (State.Effect.zone z x).work.trans (State.work_grantHead _ _)
  · exact (State.Effect.zone z x).work.trans (State.work_dropWaits _ _)

/-- A request performed is work of the engines, a grant by CLAIM, a new wait, a LOAD_LINK, the counters of a link cleared
or a RESTART. -/
theorem State.Serves.outcome {k : LinkId} {s t : State} (h : s.Serves k t) :
    s.Work True t ∨
    (∃ (r : Resource) (tag : Byte), (s.setLease r (.held ⟨k, s.cls k, tag⟩)).Work True t) ∨
    (∃ (r : Resource) (tag : Byte), s.waitsOn k r = false ∧ s.grantable r = false ∧
      (s.waits.filter (fun w => w.link == k)).length < 4 ∧ s.waits.length < 24 ∧
      t = s.setWaits (insertWait ⟨k, r, s.cls k, tag⟩ s.waits)) ∨
    (∃ (j : LinkId) (x : LinkProfile), s.locksOut j x = false ∧
      t = (s.replaceLink k j x).1) ∨
    (∃ j : LinkId, t = s.mapLink j (fun l => l.mapCounters (fun _ => LinkCounters.zero))) ∨
    t = s.beginRestart := by
  cases h with
  | nothing => exact .inl .refl
  | grant r tag => exact .inr (.inl ⟨r, tag, State.work_grant s r _⟩)
  | wait r tag notWaiting notGrantable mine pool =>
    exact .inr (.inr (.inl ⟨r, tag, notWaiting, notGrantable, mine, pool, rfl⟩))
  | releaseZone z =>
    exact .inl (((s.work_detachZone z _).trans (State.Effect.free _).work).trans (State.work_grantHead _ _))
  | releaseSuspended p =>
    exact .inl (((s.work_cut p).trans (State.Effect.free _).work).trans (State.work_setPortState _ p _))
  | releaseDrained p => exact .inl (s.work_endJob p)
  | releaseClosing p h held =>
    exact .inl (((State.Effect.closing p h held).work.trans (State.work_setPortState _ p _)).trans
      (State.work_mapPort _ p _))
  | withdraw r => exact .inl (State.Effect.waits _ List.filter_sublist).work
  | stage p payload => exact .inl (s.work_mapPort p _)
  | loadWindow i w => exact .inl (State.Effect.window i w).work
  | loadZone z x => exact .inl (s.work_replaceZone z x)
  | loadPort p x => exact .inl (s.work_mapPort p _)
  | loadLink j x manageable => exact .inr (.inr (.inr (.inl ⟨j, x, manageable, rfl⟩)))
  | setReport v => exact .inl (s.work_setReportLink v)
  | clearLink j => exact .inr (.inr (.inr (.inr (.inl ⟨j, rfl⟩))))
  | clearPort p => exact .inl (s.work_mapPort p _)
  | revoke r => exact .inl (s.work_revoke r _)
  | enable p => exact .inl (s.work_enable p)
  | disable p => exact .inl (s.work_disable p)
  | restart => exact .inr (.inr (.inr (.inr (.inr rfl))))

theorem State.link_beginRestart (s : State) (j : LinkId) : s.beginRestart.link j = (s.link j).supersede := by
  simp [State.beginRestart, State.link]

/-! ## Invariants of each link -/

/-- P is kept by what the work of the engines can do to a link. -/
structure EngineKept (P : Link → Prop) : Prop where
  notice : ∀ (l : Link) (n : Notice), P l → P { l with notices := mergeNotice l.notices n }
  withdraw : ∀ (l : Link) (keep : Notice → Bool), P l → P { l with notices := l.notices.filter keep }
  touch : ∀ (l : Link) (r : Report), P l → P (l.takeReport r)
  dataQ : ∀ (l : Link) (es : List DataEntry), P l → P { l with dataQ := es }

/-- P is kept by what a performed request can do to a link. -/
structure ServeKept (P : Link → Prop) : Prop extends EngineKept P where
  counters : ∀ (l : Link) (f : LinkCounters → LinkCounters), P l → P (l.mapCounters f)
  replaced : ∀ (l : Link) (own : Bool) (x : LinkProfile), P l → P (l.replaced own x)
  supersede : ∀ l : Link, P l → P l.supersede

/-- P is kept by everything that can happen to a link. -/
structure MoveKept (P : Link → Prop) : Prop extends ServeKept P where
  reset : ∀ (l : Link) (mgmt : Bool), l.AtReset mgmt → P l
  tick : ∀ l : Link, P l → P l.tick
  byte : ∀ (l : Link) (b : Byte), l.up = true → P l → P (l.receiveByte b)
  presentLine : ∀ (l : Link) (level : Bool), P l → P (l.putPresent level)
  presented : ∀ l : Link, P l → P l.presented
  tearDown : ∀ l : Link, P l → P l.tearDown
  sent : ∀ l : Link, P l → P { l with tx := .idleFill }
  boundary : ∀ (l : Link) (control : List ControlFrame) (touch : List Report) (tx : LinkTx) (holdIn : Bool)
    (rate : LinkRate), control.Sublist l.control → touch.Sublist l.touch → P l →
    P { l with control := control, touch := touch, tx := tx, holdInPin := holdIn, txRate := rate, txNewRate := none }
  take : ∀ (l : Link) (f : Frame) (fs : List Frame), l.up = true → l.ingress = f :: fs → P l →
    P (Link.judgeHold l.occupancy { l with ingress := fs })
  answer : ∀ (l : Link) (tag : Byte) (address : Word) (a : Answer), l.control.length < 8 → P l →
    P (l.placeAnswer tag address a)
  hold : ∀ (l : Link) (h : Hand), l.up = true → P l → P { l with hand := some h }
  move : ∀ (l : Link) (n : Notice) (ns : List Notice), l.up = true → l.notices = n :: ns → l.control.length < 8 → P l →
    P { l with notices := ns, control := l.control ++ [⟨n.frame, none⟩] }
  prepared : ∀ (l : Link) (r : Option Resource), l.roomFor r = true → P l → P ({ l with hand := none }.flush r)

section
variable {P : LinkId → Link → Prop} {s t : State}

theorem each_mapLink (k : LinkId) (f : Link → Link) (kept : P k (s.link k) → P k (f (s.link k)))
    (h : ∀ j, P j (s.link j)) : ∀ j, P j ((s.mapLink k f).link j) := by
  intro j
  rw [State.link_mapLink]
  split
  · next same =>
    subst same
    exact kept (h j)
  · exact h j

theorem State.Effect.each (kept : ∀ j, EngineKept (P j)) (e : s.Effect True t) (h : ∀ j, P j (s.link j)) :
    ∀ j, P j (t.link j) := by
  cases e with
  | port p x => exact h
  | zone z x => exact h
  | window i w => exact h
  | report v => exact h
  | free r => simpa using h
  | seat w m => simpa [State.removeWait] using h
  | closing p x e => simpa using h
  | waits ws e => exact h
  | notice k n =>
    unfold State.enterNotice
    split
    · exact each_mapLink k _ ((kept k).notice _ n) h
    · exact h
  | withdraw k f => exact each_mapLink k _ ((kept k).withdraw _ f) h
  | touch k r => exact each_mapLink k _ ((kept k).touch _ r) h
  | hand k r e _ _ => exact each_mapLink k _ ((kept k).dataQ _ _) h
  | unhand k f => exact each_mapLink k _ ((kept k).dataQ _ _) h

theorem State.Work.each (kept : ∀ j, EngineKept (P j)) (w : s.Work True t) (h : ∀ j, P j (s.link j)) :
    ∀ j, P j (t.link j) :=
  w.keeps (I := fun s => ∀ j, P j (s.link j)) (fun _ _ e i => e.each kept i) h

theorem State.Serves.each (kept : ∀ j, ServeKept (P j)) {k : LinkId} (m : s.Serves k t) (h : ∀ j, P j (s.link j)) :
    ∀ j, P j (t.link j) := by
  have engine (j : LinkId) : EngineKept (P j) := (kept j).toEngineKept
  rcases m.outcome with work | ⟨r, tag, work⟩ | ⟨r, tag, -, -, -, -, rfl⟩ | ⟨j, x, -, rfl⟩ | ⟨j, rfl⟩ | rfl
  · exact work.each engine h
  · exact work.each engine (by simpa using h)
  · exact h
  · exact (s.work_replaceLink k j x).hands.each engine (each_mapLink j _ ((kept j).replaced _ _ x) h)
  · exact each_mapLink j _ ((kept j).counters _ _) h
  · intro j
    rw [State.link_beginRestart]
    exact (kept j).supersede _ (h j)

end

/-- A control queue does not grow while a request is performed. -/
theorem serveKept_control (n : Nat) : ServeKept (fun l => l.control.length ≤ n) where
  notice _ _ h := h
  withdraw _ _ h := h
  touch l r h := by
    have same : (l.takeReport r).control = l.control := by rw [l.delivered_takeReport r]
    rwa [same]
  dataQ _ _ h := h
  counters _ _ h := h
  replaced l own x h := by
    have loaded : (l.loadProfile x).control = l.control := by
      unfold Link.loadProfile Link.newRate
      dsimp only
      split
      · rfl
      · split <;> rfl
    unfold Link.replaced
    split
    · rwa [loaded]
    split
    · unfold Link.enable
      split
      · simpa [Link.clearSelfDisable, loaded] using h
      · split <;> simpa [Link.comeUp, loaded] using h
    split
    · simpa [loaded] using h
    split
    · simp [Link.tearDown]
    · rwa [loaded]
  supersede _ h := h

theorem Link.roomFor_none (l : Link) : l.roomFor none = true ↔ l.control.length < 8 := by
  rw [← Link.freePlaces_pos]
  exact decide_eq_true_iff

theorem Link.roomFor_some (l : Link) (r : Resource) : l.roomFor (some r) = true ↔
    l.control.length + (l.notices.filter (fun n => n.resource == r)).length < 8 := by
  have def_ : l.roomFor (some r) = true ↔ l.pendingAbout r + 1 ≤ l.freePlaces := decide_eq_true_iff
  rw [def_, Link.pendingAbout, Link.freePlaces, Config.controlPlaces]
  omega

theorem Link.room_prepared {l : Link} {r : Option Resource} (room : l.roomFor r = true) :
    ({ l with hand := none }.flush r).control.length < 8 := by
  cases r with
  | none => exact l.roomFor_none.1 room
  | some r => simpa [Link.flush] using (l.roomFor_some r).1 room

/-- What everything that can happen to a link keeps, every step keeps of each link. -/
theorem kept_each {P : Link → Prop} (kept : MoveKept P) : Kept (fun s => ∀ k, P (s.link k)) := by
  refine kept_of_move fun s t move h => ?_
  have serving : ∀ _ : LinkId, ServeKept P := fun _ => kept.toServeKept
  have engine : ∀ _ : LinkId, EngineKept P := fun _ => kept.toEngineKept
  have served {k : LinkId} {r : Option Resource} (room : (s.link k).roomFor r = true) {u : State}
      (serves : (s.prepared k r).Serves k u) : ∀ j, P (u.link j) :=
    serves.each serving (each_mapLink (P := fun _ => P) k _ (kept.prepared _ r room) h)
  cases move with
  | commands => exact h
  | choice => exact h
  | reset t atReset => exact fun k => kept.reset _ _ (atReset.links k)
  | tick => exact fun k => by rw [link_tick]; exact kept.tick _ (h k)
  | port p t move => exact move.work.each engine h
  | byte k b up => exact each_mapLink (P := fun _ => P) k _ (kept.byte _ b up) h
  | presentLine k level => exact each_mapLink (P := fun _ => P) k _ (kept.presentLine _ level) h
  | present k =>
    exact (s.work_takePresent k).hands.each engine (each_mapLink (P := fun _ => P) k _ (kept.presented _) h)
  | tearDown k => exact (s.work_tearDown k).each engine (each_mapLink (P := fun _ => P) k _ (kept.tearDown _) h)
  | sent k => exact each_mapLink (P := fun _ => P) k _ (kept.sent _) h
  | finish k =>
    unfold State.finishEntry
    split
    · exact h
    · next e es _ =>
      exact each_mapLink (P := fun _ => P) k (fun l => { l with dataQ := es }) (kept.dataQ _ es) h
  | boundary k holdIn =>
    obtain ⟨control, touch, tx, rate, fewer, less, same⟩ := s.boundary_eq k holdIn
    rw [same]
    exact each_mapLink (P := fun _ => P) k (fun _ => _) (kept.boundary _ control touch tx holdIn rate fewer less) h
  | take k f fs up stored => exact each_mapLink (P := fun _ => P) k _ (kept.take _ f fs up stored) h
  | refuse k tag address a up room => exact each_mapLink (P := fun _ => P) k _ (kept.answer _ tag address a room) h
  | hold k x up => exact each_mapLink (P := fun _ => P) k _ (kept.hold _ x up) h
  | notice k n ns up pending room => exact each_mapLink (P := fun _ => P) k _ (kept.move _ n ns up pending room) h
  | serve k x r hand room u serves => exact served room serves
  | answer k x r hand room u serves a =>
    have places : (u.link k).control.length < 8 := by
      have before : ((s.prepared k r).link k).control.length < 8 := by
        rw [State.prepared, State.link_mapLink_self]
        exact Link.room_prepared room
      have after := serves.each (P := fun j l => l.control.length ≤ ((s.prepared k r).link j).control.length)
        (fun j => serveKept_control _) (fun _ => le_refl _) k
      exact lt_of_le_of_lt after before
    exact each_mapLink (P := fun _ => P) k _ (kept.answer _ x.tag x.address a places) (served room serves)

end Sys2Proof.Machine
end

section
/-! PROOF. Invariants of each link and of the pool: pending sets in order (R52, R54), ingress within its bytes (R14, R19),
queues within their places (R24, R25, R74), and a manager that stays (R170). -/

namespace Sys2Proof.Machine

/-! ## Fields that single operations leave alone -/

@[simp] theorem Link.notices_takeReport (l : Link) (r : Report) : (l.takeReport r).notices = l.notices := by
  unfold Link.takeReport
  split
  · rfl
  · split <;> rfl

@[simp] theorem Link.control_takeReport (l : Link) (r : Report) : (l.takeReport r).control = l.control := by
  rw [l.delivered_takeReport r]

@[simp] theorem Link.ingress_takeReport (l : Link) (r : Report) : (l.takeReport r).ingress = l.ingress := by
  rw [l.delivered_takeReport r]

@[simp] theorem Link.rx_takeReport (l : Link) (r : Report) : (l.takeReport r).rx = l.rx := by
  rw [l.delivered_takeReport r]

/-- The receiver changes its own state, ingress, HOLD-out and counters only: queues, pending set, profile and link state
stay. -/
structure Link.SameQueues (l m : Link) : Prop where
  notices : m.notices = l.notices
  control : m.control = l.control
  touch : m.touch = l.touch
  profile : m.profile = l.profile
  up : m.up = l.up
  present : m.present = l.present
  dataQ : m.dataQ = l.dataQ

theorem Link.SameQueues.trans {a b c : Link} (h : a.SameQueues b) (g : b.SameQueues c) : a.SameQueues c :=
  ⟨g.notices.trans h.notices, g.control.trans h.control, g.touch.trans h.touch, g.profile.trans h.profile,
    g.up.trans h.up, g.present.trans h.present, g.dataQ.trans h.dataQ⟩

theorem Link.sameQueues_judgeHold (was : Nat) (l : Link) : l.SameQueues (l.judgeHold was) := by
  unfold Link.judgeHold
  split <;> exact ⟨rfl, rfl, rfl, rfl, rfl, rfl, rfl⟩

theorem Link.sameQueues_leaveFrame (next : RxState) (l : Link) : l.SameQueues (l.leaveFrame next) := by
  unfold Link.leaveFrame
  split <;> exact ⟨rfl, rfl, rfl, rfl, rfl, rfl, rfl⟩

theorem Link.sameQueues_discardFrame (next : RxState) (l : Link) : l.SameQueues (l.discardFrame next) :=
  (l.sameQueues_leaveFrame next).trans (Link.sameQueues_judgeHold _ _)

theorem Link.sameQueues_discarded (next : RxState) (l : Link) (f : LinkCounters → LinkCounters) :
    l.SameQueues ((l.discardFrame next).mapCounters f) :=
  (l.sameQueues_discardFrame next).trans ⟨rfl, rfl, rfl, rfl, rfl, rfl, rfl⟩

theorem Link.sameQueues_writeByte {ph : RxPhase} {a a' : Assembly} {b : Byte} {l w : Link}
    (h : l.writeByte ph a b = some (a', w)) : l.SameQueues w := by
  unfold Link.writeByte at h
  split at h
  · cases h
  · cases h
    have judged := Link.sameQueues_judgeHold l.occupancy
      { l with rx := .frame ph { a with written := a.written ++ [b], crc := crcByte a.crc b, escape := false } }
    exact ⟨judged.notices, judged.control, judged.touch, judged.profile, judged.up, judged.present,
      judged.dataQ⟩

theorem Link.sameQueues_contentByte (ph : RxPhase) (a : Assembly) (b : Byte) (l : Link) :
    l.SameQueues (l.contentByte ph a b) := by
  cases ph with
  | header =>
    simp only [Link.contentByte, Link.headerByte]
    split
    · exact l.sameQueues_discarded _ _
    · next written =>
      have first := Link.sameQueues_writeByte written
      split
      · exact first
      · split
        · exact first.trans (Link.sameQueues_discarded _ _ _)
        · exact first.trans ⟨rfl, rfl, rfl, rfl, rfl, rfl, rfl⟩
  | body =>
    simp only [Link.contentByte, Link.bodyByte]
    split
    · exact l.sameQueues_discarded _ _
    · next written =>
      have first := Link.sameQueues_writeByte written
      split
      · exact first
      · exact first.trans ⟨rfl, rfl, rfl, rfl, rfl, rfl, rfl⟩
  | check =>
    simp only [Link.contentByte, Link.checkByte]
    split
    · exact ⟨rfl, rfl, rfl, rfl, rfl, rfl, rfl⟩
    · split
      · have left := Link.sameQueues_leaveFrame .hunt { l with ingress := l.ingress ++ [Frame.ofContent a.written] }
        exact ⟨left.notices, left.control, left.touch, left.profile, left.up, left.present, left.dataQ⟩
      · exact l.sameQueues_discarded _ _

theorem Link.sameQueues_receiveByte (b : Byte) (l : Link) : l.SameQueues (l.receiveByte b) := by
  unfold Link.receiveByte
  split
  · split <;> exact ⟨rfl, rfl, rfl, rfl, rfl, rfl, rfl⟩
  · split
    · exact ⟨rfl, rfl, rfl, rfl, rfl, rfl, rfl⟩
    · split <;> exact ⟨rfl, rfl, rfl, rfl, rfl, rfl, rfl⟩
  · unfold Link.frameByte
    split
    · exact l.sameQueues_discarded _ _
    · exact l.sameQueues_discarded _ _
    · exact ⟨rfl, rfl, rfl, rfl, rfl, rfl, rfl⟩
    · exact l.sameQueues_discarded _ _
    · exact l.sameQueues_contentByte _ _ _

/-- A profile loaded is the profile, and the queues stay as they are. -/
theorem Link.loadProfile_queues (x : LinkProfile) (l : Link) :
    (l.loadProfile x).notices = l.notices ∧ (l.loadProfile x).control = l.control ∧
      (l.loadProfile x).touch = l.touch ∧ (l.loadProfile x).profile = x ∧ (l.loadProfile x).ingress = l.ingress ∧
      (l.loadProfile x).present = l.present ∧ (l.loadProfile x).selfDisable = l.selfDisable := by
  unfold Link.loadProfile Link.newRate
  dsimp only
  split
  · exact ⟨rfl, rfl, rfl, rfl, rfl, rfl, rfl⟩
  · split <;> exact ⟨rfl, rfl, rfl, rfl, rfl, rfl, rfl⟩

/-- A property that only looks at what enabling, self-disabling and teardown keep holds of a link replaced when it holds
of the link loaded. -/
theorem Link.replaced_cases {Q : Link → Prop} (l : Link) (own : Bool) (x : LinkProfile) (loaded : Q (l.loadProfile x))
    (cleared : Q (l.loadProfile x) → Q (l.loadProfile x).clearSelfDisable)
    (up : Q (l.loadProfile x) → Q (l.loadProfile x).comeUp)
    (self : Q (l.loadProfile x) → Q { l.loadProfile x with selfDisable := some (.running 0) })
    (down : Q (l.loadProfile x) → Q (l.loadProfile x).tearDown) : Q (l.replaced own x) := by
  unfold Link.replaced
  split
  · exact loaded
  split
  · unfold Link.enable
    split
    · exact cleared loaded
    · split
      · exact up loaded
      · exact loaded
  split
  · exact self loaded
  split
  · exact down loaded
  · exact loaded

/-- A property kept by taking the level, by coming up and by teardown holds of a link whose present state was taken. -/
theorem Link.presented_cases {Q : Link → Prop} (l : Link) (taken : Q l.takePresent)
    (up : Q l.takePresent → Q l.takePresent.comeUp) (down : Q l.takePresent → Q l.takePresent.tearDown) :
    Q l.presented := by
  unfold Link.presented
  split
  · exact down taken
  · split
    · exact up taken
    · exact taken

/-! ## Pending sets -/

/-- A notice entering a set in order leaves it in order (R53, R54). -/
theorem pairwise_mergeNotice (n : Notice) (ns : List Notice) (h : ns.Pairwise (fun a b => a.order < b.order)) :
    (mergeNotice ns n).Pairwise (fun a b => a.order < b.order) := by
  unfold mergeNotice
  split
  case h_1 => exact pairwise_replaceNotice n _ (h.filter _)
  case h_2 => exact pairwise_replaceNotice n _ (h.filter _)
  case h_3 =>
    split
    · exact h.filter _
    · exact pairwise_replaceNotice n _ h
  case h_4 =>
    split
    · split <;> exact pairwise_replaceNotice _ _ h
    · exact pairwise_replaceNotice n _ h
  all_goals exact pairwise_replaceNotice n _ h

theorem moveKept_notices : MoveKept (fun l => l.notices.Pairwise (fun m n => m.order < n.order)) where
  notice _ n h := pairwise_mergeNotice n _ h
  withdraw _ _ h := h.filter _
  touch l r h := by rwa [Link.notices_takeReport]
  dataQ _ _ h := h
  counters _ _ h := h
  replaced l own x h := by
    have loaded : (l.loadProfile x).notices.Pairwise (fun m n => m.order < n.order) := by
      rwa [(l.loadProfile_queues x).1]
    exact l.replaced_cases own x (Q := fun m => m.notices.Pairwise (fun m n => m.order < n.order)) loaded id id id
      fun _ => List.Pairwise.nil
  supersede _ h := h
  reset l _ h := by simp [h.notices]
  tick _ h := h
  byte l b _ h := by rwa [(l.sameQueues_receiveByte b).notices]
  presentLine _ _ h := h
  presented l h := l.presented_cases (Q := fun m => m.notices.Pairwise (fun m n => m.order < n.order)) h id
    fun _ => List.Pairwise.nil
  tearDown _ _ := List.Pairwise.nil
  sent _ h := h
  boundary _ _ _ _ _ _ _ _ h := h
  take l f fs _ _ h := by rwa [(Link.sameQueues_judgeHold _ _).notices]
  answer l _ _ _ _ h := by
    unfold Link.placeAnswer
    dsimp only
    split <;> exact h
  hold _ _ _ h := h
  move l n ns _ pending _ h := by
    rw [pending] at h
    exact h.of_cons
  prepared l r _ h := by
    cases r with
    | none => exact h
    | some r => exact h.filter _

/-- Settles O57: each way a pending set changes keeps it in order. -/
theorem pendingSetsStayOrdered : Obligations.PendingSetsStayOrdered := kept_each moveKept_notices

/-! ## Ingress -/

/-- A link whose ingress is within its bytes, with the whole header of a frame in its check word written. -/
def Link.IngressOk (l : Link) : Prop :=
  l.occupancy ≤ 2048 ∧ ∀ a : Assembly, l.rx = .frame .check a → 6 ≤ a.written.length

theorem Link.IngressOk.congr {l m : Link} (h : l.IngressOk) (ingress : m.ingress = l.ingress) (rx : m.rx = l.rx) :
    m.IngressOk := by
  unfold Link.IngressOk Link.occupancy at *
  rwa [ingress, rx]

/-- A receiver outside a frame occupies nothing beyond the stored frames. -/
theorem Link.IngressOk.outside {l m : Link} (h : l.IngressOk) (ingress : m.ingress = l.ingress)
    (rx : m.rx = .hunt ∨ m.rx = .armed) : m.IngressOk := by
  obtain ⟨space, -⟩ := h
  unfold Link.IngressOk Link.occupancy at *
  rw [ingress]
  rcases rx with rx | rx <;> rw [rx] <;> exact ⟨by simp only [RxState.written]; omega, fun a e => by cases e⟩

theorem Link.rx_leaveFrame {next : RxState} (outside : next = .hunt ∨ next = .armed) (l : Link) :
    (l.leaveFrame next).rx = .hunt ∨ (l.leaveFrame next).rx = .armed := by
  unfold Link.leaveFrame
  split
  · exact outside
  · exact .inl rfl

theorem Link.IngressOk.discarded {l : Link} (h : l.IngressOk) {next : RxState} (outside : next = .hunt ∨ next = .armed)
    (f : LinkCounters → LinkCounters) : ((l.discardFrame next).mapCounters f).IngressOk := by
  refine h.outside ?_ ?_
  · exact (Link.ingress_judgeHold _ _).trans (Link.ingress_leaveFrame _ _)
  · have rx := Link.rx_leaveFrame outside l
    rwa [← Link.rx_discardFrame] at rx

/-- A byte written within the bytes of ingress, in a part of the frame before its check word. -/
theorem Link.IngressOk.written {l w : Link} {ph : RxPhase} {a a' : Assembly} {b : Byte}
    (rx : ∃ ph, l.rx = .frame ph a) (notCheck : ph ≠ .check) (h : l.writeByte ph a b = some (a', w)) :
    w.IngressOk ∧ a'.written = a.written ++ [b] ∧ w.occupancy ≤ 2048 ∧ w.rx = .frame ph a' := by
  obtain ⟨ph0, rx⟩ := rx
  unfold Link.writeByte at h
  split at h
  · cases h
  next room =>
  cases h
  have more : (l.ingress.map Frame.space).sum + (a.written ++ [b]).length ≤ 2048 := by
    simp only [Config.ingressBytes, Link.occupancy, rx, RxState.written] at room
    simp only [List.length_append, List.length_cons, List.length_nil]
    omega
  have space : Link.occupancy
      { l with rx := .frame ph ⟨a.written ++ [b], a.length, crcByte a.crc b, a.checks, false⟩ } ≤ 2048 := more
  refine ⟨⟨?_, ?_⟩, rfl, ?_, ?_⟩
  · rwa [Link.occupancy_judgeHold]
  · intro c check
    rw [Link.rx_judgeHold] at check
    cases check
    exact absurd rfl notCheck
  · rwa [Link.occupancy_judgeHold]
  · rw [Link.rx_judgeHold]

theorem Frame.space_ofContent {bytes : List Byte} (h : 6 ≤ bytes.length) :
    (Frame.ofContent bytes).space = bytes.length := by
  match bytes, h with
  | _ :: _ :: _ :: _ :: _ :: _ :: payload, _ =>
    simp only [Frame.ofContent, Frame.space, List.length_cons]
    omega

/-- The same bytes in the check word of the frame. -/
theorem Link.occupancy_frame (l : Link) (ph : RxPhase) (a : Assembly) :
    Link.occupancy { l with rx := .frame ph a } = (l.ingress.map Frame.space).sum + a.written.length := rfl

theorem Link.IngressOk.contentByte {l : Link} {ph : RxPhase} {a : Assembly} (b : Byte) (h : l.IngressOk)
    (rx : l.rx = .frame ph a) : (l.contentByte ph a b).IngressOk := by
  cases ph with
  | header =>
    simp only [Link.contentByte, Link.headerByte]
    split
    · exact h.discarded (.inl rfl) _
    · next a' w written =>
      obtain ⟨ok, bytes, space, state⟩ := Link.IngressOk.written ⟨_, rx⟩ (by decide) written
      split
      · exact ok
      · next whole =>
        split
        · exact ok.discarded (.inl rfl) _
        · refine ⟨?_, ?_⟩
          · rw [Link.occupancy, state] at space
            exact space
          · intro c check
            injection check with _ same
            rw [← same]
            exact Nat.not_lt.1 whole
  | body =>
    simp only [Link.contentByte, Link.bodyByte]
    split
    · exact h.discarded (.inl rfl) _
    · next a' w written =>
      obtain ⟨ok, bytes, space, state⟩ := Link.IngressOk.written ⟨_, rx⟩ (by decide) written
      split
      · exact ok
      · next whole =>
        refine ⟨?_, ?_⟩
        · rw [Link.occupancy, state] at space
          exact space
        · intro c check
          cases check
          omega
  | check =>
    obtain ⟨space, header⟩ := h
    have six := header a rx
    rw [Link.occupancy, rx] at space
    simp only [Link.contentByte, Link.checkByte]
    split
    · refine ⟨space, ?_⟩
      intro c check
      cases check
      exact six
    · split
      · have stored : (((l.ingress ++ [Frame.ofContent a.written]).map Frame.space)).sum ≤ 2048 := by
          simpa [Frame.space_ofContent six, RxState.written] using space
        have outside := Link.rx_leaveFrame (.inl rfl : RxState.hunt = .hunt ∨ RxState.hunt = .armed)
          { l with ingress := l.ingress ++ [Frame.ofContent a.written] }
        have ok : Link.IngressOk { l with ingress := l.ingress ++ [Frame.ofContent a.written], rx := .hunt } :=
          ⟨by simpa [Link.occupancy, RxState.written] using stored, fun c check => by cases check⟩
        exact ok.outside (Link.ingress_leaveFrame _ _) outside
      · exact Link.IngressOk.discarded ⟨by rw [Link.occupancy, rx]; exact space, header⟩ (.inl rfl) _

theorem Link.IngressOk.receiveByte {l : Link} (b : Byte) (h : l.IngressOk) : (l.receiveByte b).IngressOk := by
  unfold Link.receiveByte
  split
  · split
    · exact h.outside rfl (.inr rfl)
    · exact h
  · split
    · obtain ⟨space, -⟩ := h
      next armed _ =>
      rw [Link.occupancy, armed] at space
      refine ⟨space, ?_⟩
      intro c check
      cases check
    · split
      · exact h
      · exact h.outside rfl (.inl rfl)
  · next ph a rx =>
    unfold Link.frameByte
    split
    · exact h.discarded (.inr rfl) _
    · exact h.discarded (.inl rfl) _
    · obtain ⟨space, header⟩ := h
      rw [Link.occupancy, rx] at space
      refine ⟨space, ?_⟩
      intro c check
      cases check
      exact header a rx
    · exact h.discarded (.inl rfl) _
    · exact h.contentByte _ rx

theorem Link.IngressOk.tearDown (l : Link) : l.tearDown.IngressOk := by
  refine ⟨?_, ?_⟩
  · simp [Link.occupancy, RxState.written]
  · rw [Link.rx_tearDown]
    intro a check
    cases check

theorem Link.IngressOk.loadProfile {l : Link} (x : LinkProfile) (h : l.IngressOk) : (l.loadProfile x).IngressOk := by
  unfold Link.loadProfile Link.newRate
  dsimp only
  split
  · exact h
  · split
    · exact h
    · exact h.outside rfl (.inl rfl)
    · exact h

theorem moveKept_ingress : MoveKept Link.IngressOk where
  notice _ _ h := h
  withdraw _ _ h := h
  touch l r h := h.congr (l.ingress_takeReport r) (l.rx_takeReport r)
  dataQ _ _ h := h
  counters _ _ h := h
  replaced l own x h := l.replaced_cases own x (h.loadProfile x) id (fun ok => ok.outside rfl (.inl rfl)) id
    fun _ => Link.IngressOk.tearDown _
  supersede _ h := h
  reset l _ h := by
    unfold Link.IngressOk Link.occupancy
    rw [h.receiver, h.ingress]
    exact ⟨by simp [RxState.written], fun a e => by cases e⟩
  tick _ h := h
  byte l b _ h := h.receiveByte b
  presentLine _ _ h := h
  presented l h := l.presented_cases (Q := Link.IngressOk) h (fun ok => ok.outside rfl (.inl rfl))
    fun _ => Link.IngressOk.tearDown _
  tearDown l _ := Link.IngressOk.tearDown l
  sent _ h := h
  boundary _ _ _ _ _ _ _ _ h := h
  take l f fs _ stored h := by
    obtain ⟨space, header⟩ := h
    refine ⟨?_, ?_⟩
    · rw [Link.occupancy_judgeHold]
      rw [Link.occupancy, stored, List.map_cons, List.sum_cons] at space
      simp only [Link.occupancy]
      omega
    · rw [Link.rx_judgeHold]
      exact header
  answer l _ _ _ _ h := by
    unfold Link.placeAnswer
    dsimp only
    split <;> exact h
  hold _ _ _ h := h
  move _ _ _ _ _ _ h := h
  prepared l r _ h := by cases r <;> exact h

theorem ingressInv_iff (s : State) : IngressInv s ↔ ∀ k, (s.link k).IngressOk :=
  ⟨fun ⟨space, header⟩ k => ⟨space k, header k⟩, fun h => ⟨fun k => (h k).1, fun k => (h k).2⟩⟩

/-- Settles O60: a byte is written only while ingress has room, and a stored frame occupies what its assembly did. -/
theorem ingressNeverOverflows : Obligations.IngressNeverOverflows := by
  intro s t h stepped
  rw [ingressInv_iff] at h ⊢
  exact kept_each moveKept_ingress s t h stepped

/-! ## Places of the queues -/

/-- The control and touch queue of a link within their places. -/
def Link.PlacesOk (l : Link) : Prop := l.control.length ≤ 8 ∧ l.touch.length ≤ 8

theorem moveKept_places : MoveKept Link.PlacesOk where
  notice _ _ h := h
  withdraw _ _ h := h
  touch l r h := ⟨by rw [Link.control_takeReport]; exact h.1, length_takeReport l r h.2⟩
  dataQ _ _ h := h
  counters _ _ h := h
  replaced l own x h := by
    refine l.replaced_cases own x (Q := Link.PlacesOk) ?_ ?_ id id fun _ => ?_
    · obtain ⟨-, control, touch, -⟩ := l.loadProfile_queues x
      unfold Link.PlacesOk
      rwa [control, touch]
    · rintro ⟨control, touch⟩
      exact ⟨by simpa [Link.clearSelfDisable] using control, touch⟩
    · simp [Link.PlacesOk]
  supersede _ h := h
  reset l _ h := by simp [Link.PlacesOk, h.queues]
  tick _ h := h
  byte l b _ h := by
    unfold Link.PlacesOk
    rwa [(l.sameQueues_receiveByte b).control, (l.sameQueues_receiveByte b).touch]
  presentLine _ _ h := h
  presented l h := l.presented_cases (Q := Link.PlacesOk) h id fun _ => by simp [Link.PlacesOk]
  tearDown l _ := by simp [Link.PlacesOk]
  sent _ h := h
  boundary _ _ _ _ _ _ fewer less h := ⟨fewer.length_le.trans h.1, less.length_le.trans h.2⟩
  take l f fs _ _ h := by
    unfold Link.PlacesOk
    rwa [(Link.sameQueues_judgeHold _ _).control, (Link.sameQueues_judgeHold _ _).touch]
  answer l _ _ _ room h := by
    have one : (l.control.length + 1 ≤ 8) := room
    unfold Link.placeAnswer
    dsimp only
    split <;> exact ⟨by simpa [Link.mapCounters] using one, h.2⟩
  hold _ _ _ h := h
  move l n ns _ _ room h := ⟨by simpa using (room : l.control.length + 1 ≤ 8), h.2⟩
  prepared l r room h := ⟨(Link.room_prepared room).le, by cases r <;> exact h.2⟩

/-! ## The wait pool -/

/-- A wait pool within its places, in which no link waits twice for one resource (R74). -/
structure PoolOk (ws : List Wait) : Prop where
  pool : ws.length ≤ 24
  perLink : ∀ k : LinkId, (ws.filter (fun w => w.link == k)).length ≤ 4
  distinct : ws.Pairwise (fun v w => ¬(v.link = w.link ∧ v.resource = w.resource))

theorem PoolOk.sublist {vs ws : List Wait} (h : PoolOk ws) (sub : vs.Sublist ws) : PoolOk vs :=
  ⟨sub.length_le.trans h.pool, fun k => (sub.filter _).length_le.trans (h.perLink k), h.distinct.sublist sub⟩

/-- The order of a pool does not matter for its places. -/
theorem PoolOk.perm {vs ws : List Wait} (h : PoolOk ws) (p : vs.Perm ws) : PoolOk vs where
  pool := by rw [p.length_eq]; exact h.pool
  perLink k := by rw [(p.filter _).length_eq]; exact h.perLink k
  distinct := (p.pairwise_iff fun {v w} apart same => apart ⟨same.1.symm, same.2.symm⟩).2 h.distinct

theorem PoolOk.insert {ws : List Wait} (h : PoolOk ws) (w : Wait) (pool : ws.length < 24)
    (mine : (ws.filter (fun v => v.link == w.link)).length < 4)
    (apart : ∀ v ∈ ws, ¬(w.link = v.link ∧ w.resource = v.resource)) : PoolOk (insertWait w ws) := by
  refine PoolOk.perm (ws := w :: ws) ⟨pool, fun k => ?_, List.pairwise_cons.2 ⟨apart, h.distinct⟩⟩ (perm_insertWait w ws)
  rw [List.filter_cons]
  split
  · next same =>
    rw [beq_iff_eq] at same
    subst same
    exact mine
  · exact h.perLink k

/-- What a move can do to the wait pool: entries leave, or one enters that has room and is the first of its link for its
resource, or the pool is empty after a reset. -/
inductive PoolMove (ws : List Wait) : List Wait → Prop
  | fewer (vs : List Wait) (sub : vs.Sublist ws) : PoolMove ws vs
  | enters (w : Wait) (pool : ws.length < 24) (mine : (ws.filter (fun v => v.link == w.link)).length < 4)
      (apart : ∀ v ∈ ws, ¬(w.link = v.link ∧ w.resource = v.resource)) : PoolMove ws (insertWait w ws)

theorem State.Effect.waits_sublist {hands : Prop} {s t : State} (e : s.Effect hands t) : t.waits.Sublist s.waits := by
  cases e with
  | seat w m => simp [State.removeWait]
  | waits ws sub => exact sub
  | free r => simp
  | closing p h e => simp
  | notice k n => simp
  | _ => exact .refl _

theorem State.Work.waits_sublist {hands : Prop} {s t : State} (w : s.Work hands t) : t.waits.Sublist s.waits := by
  induction w with
  | refl => exact .refl _
  | tail _ last ih => exact last.waits_sublist.trans ih

theorem State.waitsOn_eq_false {s : State} {k : LinkId} {r : Resource} (h : s.waitsOn k r = false) :
    ∀ v ∈ s.waits, ¬(k = v.link ∧ r = v.resource) := by
  rintro v member ⟨rfl, rfl⟩
  simpa [State.waitsOn] using List.any_eq_false.1 h v member

theorem State.Serves.poolMove {k : LinkId} {s t : State} (m : s.Serves k t) : PoolMove s.waits t.waits := by
  rcases m.outcome with work | ⟨r, tag, work⟩ | ⟨r, tag, notWaiting, -, mine, pool, rfl⟩ | ⟨j, x, -, rfl⟩ | ⟨j, rfl⟩ | rfl
  · exact .fewer _ work.waits_sublist
  · exact .fewer _ (by simpa using work.waits_sublist)
  · exact .enters _ pool mine (State.waitsOn_eq_false notWaiting)
  · exact .fewer _ (s.work_replaceLink k j x).waits_sublist
  · exact .fewer _ (.refl _)
  · exact .fewer _ (.refl _)

theorem State.Move.poolMove {s t : State} (m : s.Move t) : PoolMove s.waits t.waits := by
  cases m with
  | reset t atReset => exact .fewer _ (by rw [atReset.waits]; exact List.nil_sublist _)
  | port p t move => exact .fewer _ move.work.waits_sublist
  | present k => exact .fewer _ (s.work_takePresent k).waits_sublist
  | tearDown k => exact .fewer _ (s.work_tearDown (hands := True) k).waits_sublist
  | finish k =>
    unfold State.finishEntry
    split <;> exact .fewer _ (.refl _)
  | boundary k holdIn =>
    obtain ⟨control, touch, tx, rate, -, -, same⟩ := s.boundary_eq k holdIn
    rw [same]
    exact .fewer _ (.refl _)
  | serve k x r hand room u serves => exact serves.poolMove
  | answer k x r hand room u serves a => exact serves.poolMove
  | _ => exact .fewer _ (.refl _)

theorem PoolOk.move {ws vs : List Wait} (h : PoolOk ws) (m : PoolMove ws vs) : PoolOk vs := by
  cases m with
  | fewer vs sub => exact h.sublist sub
  | enters w pool mine apart => exact h.insert w pool mine apart

theorem queueInv_iff (s : State) : QueueInv s ↔ (∀ k, (s.link k).PlacesOk) ∧ PoolOk s.waits :=
  ⟨fun ⟨control, touch, pool, perLink, distinct⟩ => ⟨fun k => ⟨control k, touch k⟩, pool, perLink, distinct⟩,
    fun ⟨places, pool, perLink, distinct⟩ => ⟨fun k => (places k).1, fun k => (places k).2, pool, perLink, distinct⟩⟩

theorem kept_pool : Kept (fun s => PoolOk s.waits) := kept_of_move fun _ _ m h => h.move m.poolMove

/-- Settles O52: frames enter a control queue within the room of R43, a touch queue that is full keeps its length, and
a wait is made only with room in the pool. -/
theorem queuesKeepWithinTheirPlaces : Obligations.QueuesKeepWithinTheirPlaces := by
  intro s t h stepped
  rw [queueInv_iff] at h ⊢
  obtain ⟨places, pool⟩ := h
  exact ⟨kept_each moveKept_places s t places stepped, kept_pool s t pool stepped⟩

end Sys2Proof.Machine
end

section
/-! PROOF. What a teardown leaves at its link and takes from it, DOWN links that hold nothing (R10, R34, R35), and a link
profile that keeps the part manageable (R170). -/

namespace Sys2Proof.Machine

/-! ## What work keeps of a link -/

theorem engineKept_lines (present : Bool) (profile : LinkProfile) (selfDisable : Option SelfDisable) :
    EngineKept (fun l => l.present = present ∧ l.profile = profile ∧ l.selfDisable = selfDisable) where
  notice _ _ h := h
  withdraw _ _ h := h
  touch l r h := by rw [l.delivered_takeReport r]; exact h
  dataQ _ _ h := h

/-- Work of the engines leaves the present state, the profile and the self-disable of every link alone. -/
theorem State.Work.lines {s t : State} (w : s.Work True t) (k : LinkId) :
    (t.link k).present = (s.link k).present ∧ (t.link k).profile = (s.link k).profile ∧
      (t.link k).selfDisable = (s.link k).selfDisable :=
  w.each (P := fun j l => l.present = (s.link j).present ∧ l.profile = (s.link j).profile ∧
    l.selfDisable = (s.link j).selfDisable) (fun _ => engineKept_lines _ _ _) (fun _ => ⟨rfl, rfl, rfl⟩) k

theorem State.Work.up {s t : State} (w : s.Work True t) (k : LinkId) : (t.link k).up = (s.link k).up := by
  obtain ⟨present, profile, selfDisable⟩ := w.lines k
  rw [Link.up, present, profile, selfDisable, ← Link.up]

theorem State.Effect.hands {hands : Prop} {s t : State} (e : s.Effect hands t) : s.Work True t := by
  refine Relation.ReflTransGen.single ?_
  cases e with
  | hand k r e _ holder => exact .hand k r e trivial holder
  | port p x => exact .port p x
  | zone z x => exact .zone z x
  | window i w => exact .window i w
  | report v => exact .report v
  | free r => exact .free r
  | seat w m => exact .seat w m
  | closing p h e => exact .closing p h e
  | waits ws e => exact .waits ws e
  | notice k n => exact .notice k n
  | withdraw k f => exact .withdraw k f
  | touch k r => exact .touch k r
  | unhand k f => exact .unhand k f

theorem State.Effect.up {hands : Prop} {s t : State} (e : s.Effect hands t) (k : LinkId) :
    (t.link k).up = (s.link k).up := e.hands.up k

/-! ## Holders -/

@[simp] theorem State.lease_withReport (s : State) (v : Option LinkId) (r : Resource) :
    ({ s with reportLink := v } : State).lease r = s.lease r := by cases r <;> rfl

theorem State.holder_setLease (s : State) (q r : Resource) (l : Lease) :
    (s.setLease q l).holder r = if r = q then l.holding.map (·.link) else s.holder r := by
  rw [State.holder, State.lease_setLease]
  split <;> rfl

/-- An effect makes a link a holder only from a wait of the link. -/
theorem State.Effect.holder {hands : Prop} {s t : State} (e : s.Effect hands t) {r : Resource} {k : LinkId}
    (h : t.holder r = some k) : s.holder r = some k ∨ ∃ w ∈ s.waits, w.link = k := by
  cases e with
  | free q =>
    rw [State.holder_setLease] at h
    split at h
    · cases h
    · exact .inl h
  | seat w m =>
    rw [State.holder_setLease] at h
    split at h
    · exact .inr ⟨w, m, Option.some.inj h⟩
    · simp only [State.removeWait, State.holder, State.lease_setWaits] at h
      exact .inl h
  | closing p x held =>
    rw [State.holder_setLease] at h
    split at h
    · next same =>
      refine .inl ?_
      rw [same, State.holder, held]
      exact h
    · exact .inl h
  | notice j n =>
    simp only [State.holder, State.lease_enterNotice] at h
    exact .inl h
  | port | zone | window | report | waits | withdraw | touch | hand | unhand =>
    refine .inl ?_
    simpa [State.holder, State.queueReport] using h

/-- Without a wait of its own a link becomes the holder of nothing. -/
theorem State.Work.holder {hands : Prop} {s t : State} (w : s.Work hands t) {k : LinkId}
    (noWait : ∀ v ∈ s.waits, v.link ≠ k) {r : Resource} : t.holder r = some k → s.holder r = some k := by
  induction w with
  | refl => exact id
  | tail before last ih =>
    intro h
    rcases last.holder h with held | ⟨v, waits, own⟩
    · exact ih held
    · exact absurd own (noWait v (State.Work.waits_sublist before |>.subset waits))

/-! ## Teardown -/

theorem State.waits_stripLink (s : State) (k : LinkId) : ∀ w ∈ (s.stripLink k).waits, w.link ≠ k := by
  intro w h
  simp only [State.stripLink, State.waits_setWaits_self, List.mem_filter, Bool.not_eq_true', beq_eq_false_iff_ne] at h
  exact h.2

/-- A link that does not wait holds no lease it was revoked. -/
theorem State.holder_revokeIfHeldBy {s : State} {k : LinkId} (noWait : ∀ w ∈ s.waits, w.link ≠ k) (r : Resource) :
    (s.revokeIfHeldBy k r).holder r ≠ some k := by
  have freed (u t : State) (waits : u.waits.Sublist s.waits) (w : (u.setLease r .free).Work False t) :
      t.holder r ≠ some k := by
    intro held
    have before := w.holder (k := k) (fun v m => noWait v (waits.subset (by simpa using m))) held
    rw [State.holder_setLease, if_pos rfl] at before
    cases before
  unfold State.revokeIfHeldBy
  split
  · next held =>
    obtain ⟨h, holding, -⟩ := (s.holder_eq_some r k).1 held
    cases r with
    | port p =>
      simp only [State.revoke, State.revokePort, holding]
      exact freed _ _ (s.work_cut (hands := False) p).waits_sublist (State.work_afterFree _ p h _)
    | zone z =>
      simp only [State.revoke, State.revokeZone, holding]
      exact freed _ _ (s.work_detachZone (hands := False) z _).waits_sublist
        ((State.work_noticeRevoked _ _ _ _).trans (State.work_grantHead _ _))
  · next notHeld => exact notHeld

theorem mem_zoneIds (z : ZoneId) : z ∈ zoneIds := by revert z; decide

theorem mem_allResources (r : Resource) : r ∈ allResources := by
  cases r with
  | port p => exact List.mem_append_left _ (List.mem_map_of_mem (mem_portIds p))
  | zone z => exact List.mem_append_right _ (List.mem_map_of_mem (mem_zoneIds z))

theorem State.holder_revokes (k : LinkId) : ∀ (rs : List Resource) (s : State), (∀ w ∈ s.waits, w.link ≠ k) →
    ∀ r ∈ rs, (rs.foldl (fun t r => t.revokeIfHeldBy k r) s).holder r ≠ some k
  | [], _, _, r, h => by simp at h
  | q :: qs, s, noWait, r, h => by
    have one : s.Work False (s.revokeIfHeldBy k q) := s.work_revokeIfHeldBy k q
    have noWait' : ∀ w ∈ (s.revokeIfHeldBy k q).waits, w.link ≠ k := fun w m => noWait w (one.waits_sublist.subset m)
    rcases List.mem_cons.1 h with rfl | h
    · intro held
      exact State.holder_revokeIfHeldBy noWait r ((State.work_revokes (hands := False) _ k qs).holder noWait' held)
    · exact State.holder_revokes k qs _ noWait' r h

theorem State.holder_tearDown (s : State) (k : LinkId) (r : Resource) : (s.tearDown k).holder r ≠ some k := by
  rw [State.tearDown_eq]
  exact State.holder_revokes k _ _ (s.waits_stripLink k) r (mem_allResources r)

theorem State.waits_tearDown (s : State) (k : LinkId) : ∀ w ∈ (s.tearDown k).waits, w.link ≠ k := by
  rw [State.tearDown_eq]
  exact fun w h => s.waits_stripLink k w ((State.work_revokes (hands := False) _ k _).waits_sublist.subset h)

/-- An effect other than handing data leaves a DOWN link with nothing pending as it is. -/
theorem State.Effect.link_down {s t : State} (e : s.Effect False t) {k : LinkId} (down : (s.link k).up = false)
    (notices : (s.link k).notices = []) (data : (s.link k).dataQ = []) : t.link k = s.link k := by
  cases e with
  | notice j n =>
    rw [State.link_enterNotice]
    split
    · next both =>
      obtain ⟨rfl, up⟩ := both
      rw [down] at up
      cases up
    · rfl
  | withdraw j keep =>
    rw [State.link_mapLink]
    split
    · next same =>
      subst same
      rw [notices, List.filter_nil, ← notices]
    · rfl
  | touch j r =>
    rw [State.queueReport, State.link_mapLink]
    split
    · next same =>
      subst same
      exact Link.takeReport_down r down
    · rfl
  | hand k r e no => exact no.elim
  | unhand j keep =>
    rw [State.link_mapLink]
    split
    · next same =>
      subst same
      rw [data, List.filter_nil, ← data]
    · rfl
  | port p x => rfl
  | zone z x => rfl
  | window i w => rfl
  | report v => rfl
  | free r => simp
  | seat w m => simp [State.removeWait]
  | closing p h e => simp
  | waits ws sub => rfl

theorem State.Work.link_down {s t : State} (w : s.Work False t) {k : LinkId} (down : (s.link k).up = false)
    (notices : (s.link k).notices = []) (data : (s.link k).dataQ = []) : t.link k = s.link k := by
  induction w with
  | refl => rfl
  | tail before last ih =>
    rw [← ih] at down notices data
    exact (last.link_down down notices data).trans ih

/-- A link that is DOWN once torn down is as its own teardown leaves it. -/
theorem State.link_tearDown (s : State) (k : LinkId) (down : (s.link k).tearDown.up = false) :
    (s.tearDown k).link k = (s.link k).tearDown := by
  have same := (s.work_tearDown k).link_down (k := k) (by simpa using down) (by simp) (by simp)
  rw [same, State.link_mapLink_self]

/-- A teardown leaves the link DOWN with nothing (R34, R35). -/
theorem State.tornDown (s : State) (k : LinkId) (down : (s.link k).tearDown.up = false) :
    TornDown s (s.tearDown k) k := by
  have link := s.link_tearDown k down
  exact {
    receiver := by rw [link, Link.rx_tearDown]
    ingress := by rw [link, Link.ingress_tearDown]
    queues := by rw [link]; exact ⟨rfl, rfl, rfl⟩
    notices := by rw [link, Link.notices_tearDown]
    hand := by rw [link, Link.hand_tearDown]
    holdOut := by rw [link, Link.holdOut_tearDown]
    transmitter := fun sending => by rw [link, Link.tx_tearDown _ sending]
    counters := by rw [link, Link.counters_tearDown]
    profile := by rw [link, Link.profile_tearDown]
    leases := s.holder_tearDown k
    waits := s.waits_tearDown k }

/-! ## DOWN links -/

/-- A link that holds nothing while it is DOWN. -/
def Link.Quiet (l : Link) : Prop :=
  l.up = false → l.rx = .hunt ∧ l.ingress = [] ∧ l.control = [] ∧ l.touch = [] ∧ l.dataQ = [] ∧ l.hand = none ∧
    l.notices = [] ∧ l.holdOut = false

theorem Link.Quiet.of_up {l : Link} (h : l.up = true) : l.Quiet := fun down => by simp [h] at down

theorem Link.Quiet.tearDown (l : Link) : l.tearDown.Quiet := fun _ => by simp

/-- DOWN links hold nothing, save what the links of E, which are about to give them up, hold and wait for. -/
structure DownBut (E : LinkId → Prop) (s : State) : Prop where
  link : ∀ k : LinkId, (s.link k).Quiet
  leases : ∀ (k : LinkId) (r : Resource), s.holder r = some k → (s.link k).up = true ∨ E k
  waits : ∀ w ∈ s.waits, (s.link w.link).up = true ∨ E w.link

theorem downInv_iff (s : State) : DownInv s ↔ DownBut (fun _ => False) s :=
  ⟨fun ⟨link, leases, waits⟩ => ⟨link, fun k r h => .inl (leases k r h), fun w m => .inl (waits w m)⟩,
    fun ⟨link, leases, waits⟩ => ⟨link, fun k r h => (leases k r h).resolve_right id,
      fun w m => (waits w m).resolve_right id⟩⟩

theorem DownBut.weaken {E : LinkId → Prop} {s : State} (h : DownInv s) : DownBut E s where
  link := h.link
  leases k r held := .inl (h.leases k r held)
  waits w m := .inl (h.waits w m)

/-- A change of one link that leaves it UP when it was, or that is a link of E, quiet after it. -/
theorem DownBut.mapLink {E : LinkId → Prop} {s : State} {k : LinkId} {f : Link → Link} (h : DownBut E s)
    (quiet : (f (s.link k)).Quiet) (up : E k ∨ ((s.link k).up = true → (f (s.link k)).up = true)) :
    DownBut E (s.mapLink k f) := by
  have stays (j : LinkId) (was : (s.link j).up = true ∨ E j) : ((s.mapLink k f).link j).up = true ∨ E j := by
    rw [State.link_mapLink]
    split
    · next same =>
      subst same
      rcases up with e | up
      · exact .inr e
      · exact was.imp_left up
    · exact was
  refine ⟨fun j => ?_, fun j r held => stays j (h.leases j r ?_), fun w m => stays _ (h.waits w m)⟩
  · rw [State.link_mapLink]
    split
    · exact quiet
    · exact h.link j
  · simpa [State.holder] using held

/-- An effect that only changes one link, to one as much UP. -/
theorem DownBut.sameUp {E : LinkId → Prop} {s : State} {k : LinkId} {f : Link → Link} (h : DownBut E s)
    (quiet : (f (s.link k)).Quiet) (up : (f (s.link k)).up = (s.link k).up) : DownBut E (s.mapLink k f) :=
  h.mapLink quiet (.inr fun was => up.trans was)

theorem State.Effect.downBut {hands : Prop} {E : LinkId → Prop} (none : hands → ∀ k, ¬E k) {s t : State}
    (e : s.Effect hands t) (h : DownBut E s) : DownBut E t := by
  have holders : ∀ (k : LinkId) (r : Resource), t.holder r = some k → (t.link k).up = true ∨ E k := by
    intro k r held
    rw [e.up]
    rcases e.holder held with held | ⟨w, waits, rfl⟩
    · exact h.leases k r held
    · exact h.waits w waits
  have waiting : ∀ w ∈ t.waits, (t.link w.link).up = true ∨ E w.link := by
    intro w m
    rw [e.up]
    exact h.waits w (e.waits_sublist.subset m)
  refine ⟨fun k down => ?_, holders, waiting⟩
  have was : (s.link k).up = false := by rwa [← e.up]
  obtain ⟨rx, ingress, control, touch, data, hand, notices, hold⟩ := h.link k was
  have same : t.link k = s.link k := by
    cases e with
    | hand j r x allowed holder =>
      rw [State.link_mapLink]
      split
      · next same =>
        subst same
        rcases h.leases k r holder with up | e
        · rw [was] at up
          cases up
        · exact absurd e (none allowed k)
      · rfl
    | notice j n => exact (State.Effect.notice j n).link_down was notices data
    | withdraw j keep => exact (State.Effect.withdraw j keep).link_down was notices data
    | touch j r => exact (State.Effect.touch j r).link_down was notices data
    | unhand j keep => exact (State.Effect.unhand j keep).link_down was notices data
    | port p x => rfl
    | zone z x => rfl
    | window i w => rfl
    | report v => rfl
    | free r => simp
    | seat w m => simp [State.removeWait]
    | closing p h e => simp
    | waits ws sub => rfl
  rw [same]
  exact ⟨rx, ingress, control, touch, data, hand, notices, hold⟩

theorem State.Work.downBut {hands : Prop} {E : LinkId → Prop} (none : hands → ∀ k, ¬E k) {s t : State}
    (w : s.Work hands t) (h : DownBut E s) : DownBut E t :=
  w.keeps (fun _ _ e i => e.downBut none i) h

theorem State.Work.downInv {s t : State} (w : s.Work True t) (h : DownInv s) : DownInv t := by
  rw [downInv_iff] at h ⊢
  exact w.downBut (fun _ _ => id) h

theorem DownInv.mapLink {s : State} {k : LinkId} {f : Link → Link} (h : DownInv s)
    (quiet : (f (s.link k)).Quiet) (up : (s.link k).up = true → (f (s.link k)).up = true) : DownInv (s.mapLink k f) := by
  rw [downInv_iff] at h ⊢
  exact h.mapLink quiet (.inr up)

/-- A teardown of link k, whose link state may have changed just before. -/
theorem DownInv.tearDown {s : State} {k : LinkId} {f : Link → Link} (h : DownInv s) :
    DownInv ((s.mapLink k f).tearDown k) := by
  have torn : DownBut (· = k) ((s.mapLink k f).mapLink k Link.tearDown) := by
    rw [State.mapLink_mapLink]
    exact (DownBut.weaken h).mapLink (Link.Quiet.tearDown _) (.inl rfl)
  have but := (State.work_tearDown (hands := False) (s.mapLink k f) k).downBut (fun no => no.elim) torn
  rw [downInv_iff]
  refine ⟨but.link, fun j r held => ?_, fun w m => ?_⟩
  · refine .inl ((but.leases j r held).resolve_right ?_)
    rintro rfl
    exact State.holder_tearDown _ _ r held
  · exact .inl ((but.waits w m).resolve_right (State.waits_tearDown _ k w m))

theorem State.mapLink_id (s : State) (k : LinkId) : s.mapLink k id = s := State.mapLink_eq_self rfl

theorem DownInv.of_sublink {s : State} {k : LinkId} {f : Link → Link} (h : DownInv s)
    (same : (f (s.link k)).up = (s.link k).up)
    (quiet : (s.link k).up = false → (s.link k).rx = .hunt ∧ (s.link k).ingress = [] ∧ (s.link k).control = [] ∧
      (s.link k).touch = [] ∧ (s.link k).dataQ = [] ∧ (s.link k).hand = none ∧ (s.link k).notices = [] ∧
      (s.link k).holdOut = false → (f (s.link k)).rx = .hunt ∧ (f (s.link k)).ingress = [] ∧
      (f (s.link k)).control = [] ∧ (f (s.link k)).touch = [] ∧ (f (s.link k)).dataQ = [] ∧
      (f (s.link k)).hand = none ∧ (f (s.link k)).notices = [] ∧ (f (s.link k)).holdOut = false) :
    DownInv (s.mapLink k f) := by
  refine h.mapLink (fun down => ?_) (fun up => same.trans up)
  rw [same] at down
  exact quiet down (h.link k down)

theorem Link.up_loadProfile (x : LinkProfile) (l : Link) :
    (l.loadProfile x).up = (l.present && (x.enabled || l.selfDisable.isSome)) := by
  obtain ⟨-, -, -, profile, -, present, selfDisable⟩ := l.loadProfile_queues x
  rw [Link.up, profile, present, selfDisable]

/-- A profile loaded leaves a DOWN link's receiver in HUNT and its queues empty. -/
theorem Link.loadProfile_quiet {l : Link} (x : LinkProfile) (h : l.rx = .hunt ∧ l.ingress = [] ∧ l.control = [] ∧
    l.touch = [] ∧ l.dataQ = [] ∧ l.hand = none ∧ l.notices = [] ∧ l.holdOut = false) :
    (l.loadProfile x).rx = .hunt ∧ (l.loadProfile x).ingress = [] ∧ (l.loadProfile x).control = [] ∧
      (l.loadProfile x).touch = [] ∧ (l.loadProfile x).dataQ = [] ∧ (l.loadProfile x).hand = none ∧
      (l.loadProfile x).notices = [] ∧ (l.loadProfile x).holdOut = false := by
  obtain ⟨rx, rest⟩ := h
  unfold Link.loadProfile Link.newRate
  dsimp only
  split
  · exact ⟨rx, rest⟩
  · rw [rx]
    exact ⟨rfl, rest⟩

theorem DownInv.replaceLink {s : State} (h : DownInv s) (k j : LinkId) (x : LinkProfile) :
    DownInv (s.replaceLink k j x).1 := by
  have unchangedUp (same : ((s.link j).loadProfile x).up = (s.link j).up) :
      DownInv (s.mapLink j (Link.loadProfile x)) :=
    h.of_sublink same fun _ quiet => Link.loadProfile_quiet x quiet
  by_cases same : x.enabled = (s.link j).profile.enabled
  · rw [State.replaceLink_same same]
    exact unchangedUp (by rw [Link.up_loadProfile, same, ← Link.up])
  cases enabled : x.enabled with
  | true =>
    rw [State.replaceLink_enables same enabled]
    have wasDisabled : (s.link j).profile.enabled = false := by
      cases old : (s.link j).profile.enabled <;> simp_all
    have up : (((s.link j).loadProfile x).enable).up = (s.link j).present := by
      obtain ⟨-, -, -, profile, -, present, -⟩ := (s.link j).loadProfile_queues x
      unfold Link.enable
      split
      · simp [Link.up, Link.clearSelfDisable, profile, present, enabled]
      · split <;> simp [Link.up, Link.comeUp, profile, present, enabled]
    dsimp only
    refine h.mapLink (fun down => ?_) (fun was => ?_)
    · rw [up] at down
      have wasDown : (s.link j).up = false := by simp [Link.up, down]
      obtain ⟨rx, ingress, control, touch, data, hand, notices, hold⟩ :=
        Link.loadProfile_quiet x (h.link j wasDown)
      unfold Link.enable
      split
      · exact ⟨rx, ingress, by simp [Link.clearSelfDisable, control], touch, data, hand, notices, hold⟩
      · split
        · exact ⟨rfl, ingress, control, touch, data, hand, notices, rfl⟩
        · exact ⟨rx, ingress, control, touch, data, hand, notices, hold⟩
    · rw [up]
      simp only [Link.up, Bool.and_eq_true] at was
      exact was.1
  | false =>
    by_cases own : j = k
    · subst own
      rw [State.replaceLink_own same enabled]
      obtain ⟨-, -, -, -, -, present, -⟩ := (s.link j).loadProfile_queues x
      have up : Link.up { (s.link j).loadProfile x with selfDisable := some (.running 0) } = (s.link j).present := by
        simp [Link.up, present]
      dsimp only
      refine h.mapLink (fun down => ?_) (fun was => ?_)
      · rw [up] at down
        exact Link.loadProfile_quiet x (h.link j (by simp [Link.up, down]))
      · rw [up]
        simp only [Link.up, Bool.and_eq_true] at was
        exact was.1
    cases up : (s.link j).up with
    | true =>
      rw [State.replaceLink_disables same enabled own up]
      dsimp only
      exact h.tearDown
    | false =>
      rw [State.replaceLink_down same enabled own up]
      have wasEnabled : (s.link j).profile.enabled = true := by
        cases old : (s.link j).profile.enabled <;> simp_all
      refine unchangedUp ?_
      have absent : (s.link j).present = false := by simpa [Link.up, wasEnabled] using up
      rw [Link.up_loadProfile, absent, up, Bool.false_and]

theorem DownInv.takePresent {s : State} (h : DownInv s) (k : LinkId) : DownInv (s.takePresent k) := by
  cases was : (s.link k).up <;> cases up : (s.link k).takePresent.up
  · rw [State.takePresent_same (up.trans was.symm)]
    exact h.of_sublink (up.trans was.symm) fun _ quiet => quiet
  · rw [State.takePresent_up was up]
    exact h.mapLink (Link.Quiet.of_up up) fun _ => up
  · rw [State.takePresent_down was up]
    exact h.tearDown
  · rw [State.takePresent_same (up.trans was.symm)]
    exact h.of_sublink (up.trans was.symm) fun _ quiet => quiet

/-- Only an UP link has a frame in hand. -/
theorem DownInv.up_of_hand {s : State} (h : DownInv s) {k : LinkId} {x : Hand} (hand : (s.link k).hand = some x) :
    (s.link k).up = true := by
  cases up : (s.link k).up with
  | true => rfl
  | false =>
    obtain ⟨-, -, -, -, -, none, -⟩ := h.link k up
    rw [none] at hand
    cases hand

theorem Link.up_supersede (l : Link) : l.supersede.up = l.up := by
  cases selfDisable : l.selfDisable <;> simp [Link.supersede, Link.up, selfDisable]

theorem DownInv.serves {s t : State} {k : LinkId} (h : DownInv s) (up : (s.link k).up = true) (m : s.Serves k t) :
    DownInv t := by
  rcases m.outcome with work | ⟨r, tag, work⟩ | ⟨r, tag, -, -, -, -, rfl⟩ | ⟨j, x, -, rfl⟩ | ⟨j, rfl⟩ | rfl
  · exact work.downInv h
  · refine work.downInv ⟨by simpa using h.link, fun j q held => ?_, by simpa using h.waits⟩
    rw [State.link_setLease]
    rw [State.holder_setLease] at held
    split at held
    · cases held
      exact up
    · exact h.leases j q held
  · refine ⟨h.link, fun j q held => h.leases j q ?_, fun w m => ?_⟩
    · simpa [State.holder] using held
    · rcases (mem_insertWait _ _ _).1 m with rfl | m
      · exact up
      · exact h.waits w m
  · exact h.replaceLink k j x
  · exact h.of_sublink rfl fun _ quiet => quiet
  · have same (j : LinkId) : (s.beginRestart.link j).up = (s.link j).up := by
      rw [State.link_beginRestart, Link.up_supersede]
    refine ⟨fun j down => ?_, fun j q held => ?_, fun w m => ?_⟩
    · rw [same] at down
      rw [State.link_beginRestart]
      exact h.link j down
    · rw [same]
      exact h.leases j q (by cases q <;> exact held)
    · rw [same]
      exact h.waits w m

theorem DownInv.boundary {s : State} (h : DownInv s) (k : LinkId) (holdIn : Bool) : DownInv (s.boundary k holdIn) := by
  obtain ⟨control, touch, tx, rate, fewer, less, same⟩ := s.boundary_eq k holdIn
  rw [same]
  refine h.of_sublink (f := fun _ => _) rfl ?_
  rintro - ⟨rx, ingress, noControl, noTouch, rest⟩
  rw [noControl] at fewer
  rw [noTouch] at less
  exact ⟨rx, ingress, List.sublist_nil.1 fewer, List.sublist_nil.1 less, rest⟩

theorem DownInv.prepared {s : State} (h : DownInv s) (k : LinkId) (r : Option Resource) : DownInv (s.prepared k r) := by
  cases r with
  | none =>
    refine h.of_sublink rfl ?_
    rintro - ⟨rx, ingress, control, touch, data, -, notices, hold⟩
    exact ⟨rx, ingress, control, touch, data, rfl, notices, hold⟩
  | some r =>
    refine h.of_sublink rfl ?_
    rintro - ⟨rx, ingress, control, touch, data, -, notices, hold⟩
    exact ⟨rx, ingress, by simp [Link.flush, control, notices], touch, data, rfl, by simp [Link.flush, notices], hold⟩

theorem Link.up_flush (r : Option Resource) (l : Link) : ({ l with hand := none }.flush r).up = l.up := by
  cases r <;> rfl

theorem Link.up_placeAnswer (tag : Byte) (address : Word) (a : Answer) (l : Link) :
    (l.placeAnswer tag address a).up = l.up := by
  unfold Link.placeAnswer
  dsimp only
  split <;> rfl

/-- The link whose request is performed stays UP: a LOAD_LINK of its own link only begins a self-disable (R171). -/
theorem State.Serves.up {s t : State} {k : LinkId} (up : (s.link k).up = true) (m : s.Serves k t) :
    (t.link k).up = true := by
  rcases m.outcome with work | ⟨r, tag, work⟩ | ⟨r, tag, -, -, -, -, rfl⟩ | ⟨j, x, -, rfl⟩ | ⟨j, rfl⟩ | rfl
  · rwa [work.up]
  · rwa [work.up, State.link_setLease]
  · exact up
  · rw [(s.work_replaceLink k j x).hands.up, State.link_mapLink]
    split
    · next same =>
      subst same
      have present : (s.link k).present = true := by
        simp only [Link.up, Bool.and_eq_true] at up
        exact up.1
      obtain ⟨-, -, -, profile, -, loaded, selfDisable⟩ := (s.link k).loadProfile_queues x
      unfold Link.replaced
      split
      · next same => rwa [Link.up_loadProfile, same, ← Link.up]
      split
      · next enabled =>
        unfold Link.enable
        split
        · simp [Link.up, Link.clearSelfDisable, profile, loaded, enabled, present]
        · split <;> simp [Link.up, Link.comeUp, profile, loaded, enabled, present]
      · rw [decide_eq_true rfl, if_pos rfl]
        simp [Link.up, loaded, present]
    · exact up
  · rw [State.link_mapLink]
    split
    · next same =>
      subst same
      exact up
    · exact up
  · rw [State.link_beginRestart, Link.up_supersede]
    exact up

theorem DownInv.move {s t : State} (h : DownInv s) (m : s.Move t) : DownInv t := by
  have served {k : LinkId} {x : Hand} (r : Option Resource) (hand : (s.link k).hand = some x) {u : State}
      (serves : (s.prepared k r).Serves k u) : DownInv u ∧ (u.link k).up = true := by
    have up : ((s.prepared k r).link k).up = true := by
      rw [State.prepared, State.link_mapLink_self, Link.up_flush]
      exact h.up_of_hand hand
    exact ⟨(h.prepared k r).serves up serves, serves.up up⟩
  have onUp {k : LinkId} {f : Link → Link} (up : (s.link k).up = true)
      (same : (f (s.link k)).up = (s.link k).up) : DownInv (s.mapLink k f) :=
    h.mapLink (Link.Quiet.of_up (same.trans up)) fun _ => same.trans up
  cases m with
  | commands => exact ⟨h.link, fun k r held => h.leases k r (by cases r <;> exact held), h.waits⟩
  | choice => exact ⟨h.link, fun k r held => h.leases k r (by cases r <;> exact held), h.waits⟩
  | reset t atReset =>
    refine ⟨fun k _ => ?_, fun k r held => ?_, by simp [atReset.waits]⟩
    · have reset := atReset.links k
      obtain ⟨control, touch, data⟩ := reset.queues
      exact ⟨reset.receiver, reset.ingress, control, touch, data, reset.hand, reset.notices, reset.holdOut⟩
    · simp [State.holder, atReset.leases, Lease.holding] at held
  | tick =>
    have same (j : LinkId) : (s.tick.link j).up = (s.link j).up := by
      rw [link_tick]
      cases selfDisable : (s.link j).selfDisable <;> simp [Link.tick, Link.up, selfDisable]
    refine ⟨fun j down => ?_, fun j r held => ?_, fun w m => ?_⟩
    · rw [same] at down
      rw [link_tick]
      exact h.link j down
    · rw [same]
      exact h.leases j r (by cases r <;> exact held)
    · rw [same]
      exact h.waits w m
  | port p t move => exact move.work.downInv h
  | byte k b up =>
    refine onUp up ?_
    exact ((s.link k).sameQueues_receiveByte b).up
  | presentLine k level => exact h.of_sublink rfl fun _ quiet => quiet
  | present k => exact h.takePresent k
  | tearDown k =>
    rw [← s.mapLink_id k]
    exact h.tearDown
  | sent k => exact h.of_sublink rfl fun _ quiet => quiet
  | finish k =>
    unfold State.finishEntry
    split
    · exact h
    · next e es entries =>
      refine (State.work_mapPort (hands := True) _ _ _).downInv (h.of_sublink rfl ?_)
      rintro - ⟨rx, ingress, control, touch, data, rest⟩
      rw [entries] at data
      cases data
  | boundary k holdIn => exact h.boundary k holdIn
  | take k f fs up stored => exact onUp up (by simp)
  | refuse k tag address a up room => exact onUp up (Link.up_placeAnswer _ _ _ _)
  | hold k x up => exact onUp up rfl
  | notice k n ns up pending room => exact onUp up rfl
  | serve k x r hand room u serves => exact (served r hand serves).1
  | answer k x r hand room u serves a =>
    obtain ⟨inv, up⟩ := served r hand serves
    have same := Link.up_placeAnswer x.tag x.address a (u.link k)
    exact inv.mapLink (Link.Quiet.of_up (same.trans up)) fun _ => same.trans up

/-- Settles O59: only an UP link is given work, a lease or a wait, and a link that goes DOWN is torn down. -/
theorem downLinksHoldNothing : Obligations.DownLinksHoldNothing := kept_of_move fun _ _ m h => h.move m

/-! ## A link profile that keeps the part manageable -/

theorem Link.profile_replaced (l : Link) (own : Bool) (x : LinkProfile) : (l.replaced own x).profile = x := by
  have loaded : (l.loadProfile x).profile = x := by
    obtain ⟨-, -, -, profile, -⟩ := l.loadProfile_queues x
    exact profile
  refine l.replaced_cases own x (Q := fun m => m.profile = x) loaded id id id fun _ => ?_
  rw [Link.profile_tearDown, loaded]

theorem ManagerInv.of_profiles {s t : State} (h : ManagerInv s) (same : ∀ k, (t.link k).profile = (s.link k).profile) :
    ManagerInv t := by
  obtain ⟨k, enabled, mgmt⟩ := h
  exact ⟨k, by rwa [same], by rwa [same]⟩

/-- Changes of one link that keep its profile. -/
theorem State.profile_mapLink (s : State) (k j : LinkId) (f : Link → Link)
    (same : (f (s.link k)).profile = (s.link k).profile) :
    ((s.mapLink k f).link j).profile = (s.link j).profile := by
  rw [State.link_mapLink]
  split
  · next e => rw [e, same]
  · rfl

theorem Link.profile_placeAnswer (tag : Byte) (address : Word) (a : Answer) (l : Link) :
    (l.placeAnswer tag address a).profile = l.profile := by
  unfold Link.placeAnswer
  dsimp only
  split <;> rfl

theorem State.profile_prepared (s : State) (k j : LinkId) (r : Option Resource) :
    ((s.prepared k r).link j).profile = (s.link j).profile :=
  s.profile_mapLink k j _ (by cases r <;> rfl)

theorem ManagerInv.serves {s t : State} {k : LinkId} (h : ManagerInv s) (m : s.Serves k t) : ManagerInv t := by
  rcases m.outcome with work | ⟨r, tag, work⟩ | ⟨r, tag, -, -, -, -, rfl⟩ | ⟨j, x, manageable, rfl⟩ | ⟨j, rfl⟩ | rfl
  · exact h.of_profiles fun k => (work.lines k).2.1
  · exact h.of_profiles fun k => (work.lines k).2.1.trans (by rw [State.link_setLease])
  · exact h.of_profiles fun k => rfl
  · have left : ∃ i : LinkId, (if i = j then x.manages else (s.link i).profile.manages) = true := by
      simpa [State.locksOut, mem_linkIds] using manageable
    obtain ⟨i, manages⟩ := left
    have profile : (((s.replaceLink k j x).1.link i).profile).manages = true := by
      obtain ⟨-, same, -⟩ := (s.work_replaceLink k j x).hands.lines i
      rw [same, State.link_mapLink]
      split
      · next e =>
        rw [Link.profile_replaced]
        rwa [if_pos e] at manages
      · next e => rwa [if_neg e] at manages
    simp only [LinkProfile.manages, Bool.and_eq_true] at profile
    exact ⟨i, profile.1, profile.2⟩
  · exact h.of_profiles fun i => s.profile_mapLink j i _ rfl
  · exact h.of_profiles fun i => by rw [State.link_beginRestart]; rfl

theorem ManagerInv.move {s t : State} (h : ManagerInv s) (m : s.Move t) : ManagerInv t := by
  have served {k : LinkId} (r : Option Resource) {u : State} (serves : (s.prepared k r).Serves k u) : ManagerInv u :=
    (h.of_profiles (s.profile_prepared k · r)).serves serves
  cases m with
  | commands | choice => exact h.of_profiles fun _ => rfl
  | reset t atReset =>
    refine ⟨0, ?_, ?_⟩ <;> rw [(atReset.links 0).profile]
    rfl
  | tick => exact h.of_profiles fun k => by rw [link_tick]; rfl
  | port p t move => exact h.of_profiles fun k => (move.work.lines k).2.1
  | byte k b up => exact h.of_profiles fun j => s.profile_mapLink k j _ ((s.link k).sameQueues_receiveByte b).profile
  | presentLine k level => exact h.of_profiles fun j => s.profile_mapLink k j _ rfl
  | present k =>
    refine h.of_profiles fun j => ?_
    rw [((s.work_takePresent k).hands.lines j).2.1]
    refine s.profile_mapLink k j _ ?_
    exact (s.link k).presented_cases (Q := fun m => m.profile = (s.link k).profile) rfl id
      fun _ => Link.profile_tearDown _
  | tearDown k =>
    refine h.of_profiles fun j => ?_
    rw [((s.work_tearDown k).lines j).2.1]
    exact s.profile_mapLink k j _ (Link.profile_tearDown _)
  | sent k => exact h.of_profiles fun j => s.profile_mapLink k j _ rfl
  | finish k =>
    unfold State.finishEntry
    split
    · exact h
    · next e es _ => exact h.of_profiles fun j => s.profile_mapLink k j (fun l => { l with dataQ := es }) rfl
  | boundary k holdIn =>
    obtain ⟨control, touch, tx, rate, -, -, same⟩ := s.boundary_eq k holdIn
    rw [same]
    exact h.of_profiles fun j => s.profile_mapLink k j (fun _ => _) rfl
  | take k f fs up stored => exact h.of_profiles fun j => s.profile_mapLink k j _ (Link.profile_judgeHold _ _)
  | refuse k tag address a up room =>
    exact h.of_profiles fun j => s.profile_mapLink k j _ (Link.profile_placeAnswer _ _ _ _)
  | hold k x up => exact h.of_profiles fun j => s.profile_mapLink k j _ rfl
  | notice k n ns up pending room => exact h.of_profiles fun j => s.profile_mapLink k j _ rfl
  | serve k x r hand room u serves => exact served r serves
  | answer k x r hand room u serves a =>
    exact (served r serves).of_profiles fun j => u.profile_mapLink k j _ (Link.profile_placeAnswer _ _ _ _)

/-- Settles O56: only LOAD_LINK changes a profile, and it is refused where no managing profile would be left. -/
theorem partStaysManageable : Obligations.PartStaysManageable := kept_of_move fun _ _ m h => h.move m

end Sys2Proof.Machine
end

section
/-! PROOF. What the events of a port leave alone: other ports and leases, the tables, and of the links all but what is
delivered; and what the events of one link leave alone (R73). -/

namespace Sys2Proof.Machine

/-! ## Ports: judgements and choices keep the profile -/

theorem Port.keepsLines_begin (x : Port) (tx : PortTx) (b : Byte) : x.KeepsLines (x.begin tx b) := ⟨rfl, rfl, rfl⟩

theorem Port.keepsLines_choose (x : Port) : x.KeepsLines x.choose := by
  unfold Port.choose
  dsimp only
  split
  · exact ⟨rfl, rfl, rfl⟩
  · split
    · exact ⟨rfl, rfl, rfl⟩
    · split <;> exact ⟨rfl, rfl, rfl⟩

theorem Port.keepsLines_setFlow (x : Port) (f : FlowState) : x.KeepsLines (x.setFlow f) :=
  .trans (b := { x with flow := f }) ⟨rfl, rfl, rfl⟩ (Port.keepsLines_judge _)

theorem Port.keepsLines_damageReport (x : Port) : x.KeepsLines x.damageReport := by
  unfold Port.damageReport
  split <;> exact ⟨rfl, rfl, rfl⟩

theorem Port.keepsLines_chooseJudge (x : Port) : x.KeepsLines x.choose.judge :=
  .trans x.keepsLines_choose (Port.keepsLines_judge _)

theorem Port.keepsLines_busyNegated (x : Port) : x.KeepsLines x.busyNegated := by
  unfold Port.busyNegated
  refine .trans ?_ (Port.keepsLines_judge _)
  split
  · exact .trans (b := x.readBusy false) ⟨rfl, rfl, rfl⟩ (Port.keepsLines_choose _)
  · exact ⟨rfl, rfl, rfl⟩

/-! ## Work at one port -/

section
variable {s : State} {p : PortId}

theorem State.workedAt_goOffline (s : State) (p : PortId) : s.WorkedAt p (s.goOffline p) :=
  (s.workedAt_mapPort p _ ⟨rfl, rfl, rfl⟩).trans (State.workedAt_setPortState _ p _)

theorem State.workedAt_panelFollows (s : State) (p : PortId) (was : Bool) : s.WorkedAt p (s.panelFollows p was) := by
  unfold State.panelFollows
  dsimp only
  split
  case h_1 =>
    split
    · exact s.workedAt_enterIdle p
    · exact .refl p s
  case h_2 =>
    split
    · exact (s.workedAt_panelLeavesIdle p).trans (State.workedAt_setPortState _ p _)
    · exact .refl p s
  all_goals exact .refl p s

theorem State.workedAt_readyMoves (s : State) (p : PortId) (level was : Bool) :
    s.WorkedAt p (s.readyMoves p level was) := by
  unfold State.readyMoves
  dsimp only
  split
  case h_1 => exact .refl p s
  case h_2 =>
    split
    · exact s.workedAt_enterIdle p
    · exact .refl p s
  case h_3 | h_4 =>
    split
    · exact s.workedAt_goOffline p
    · exact .refl p s
  all_goals
    split
    · exact .refl p s
    · exact s.workedAt_revokePort p _

theorem State.workedAt_suspend (s : State) (p : PortId) : s.WorkedAt p (s.suspend p) :=
  (((s.workedAt_mapPort p _ ⟨rfl, rfl, rfl⟩).trans (State.workedAt_setPortState _ p _)).trans
    (State.workedAt_tellHolder _ p _)).trans (State.workedAt_mapPort _ p _ (Port.keepsLines_judge _))

theorem State.workedAt_resume (s : State) (p : PortId) : s.WorkedAt p (s.resume p) := by
  unfold State.resume
  dsimp only
  have told : s.WorkedAt p (((s.mapPort p (fun y => { y with remembered := none, graceTimer := none })).setPortState p
      ((s.port p).remembered.getD .opened)).tellHolder p .resumed) :=
    ((s.workedAt_mapPort p _ ⟨rfl, rfl, rfl⟩).trans (State.workedAt_setPortState _ p _)).trans
      (State.workedAt_tellHolder _ p _)
  split
  · exact told.trans (State.workedAt_completeDrain _ p)
  · exact told.trans (State.workedAt_mapPort _ p _ (Port.keepsLines_judge _))

theorem State.workedAt_faultMoves (s : State) (p : PortId) (level was : Bool) :
    s.WorkedAt p (s.faultMoves p level was) := by
  unfold State.faultMoves
  dsimp only
  split
  case h_1 => exact .refl p s
  case h_2 =>
    split
    · exact s.workedAt_enterIdle p
    · exact .refl p s
  case h_3 | h_4 =>
    split
    · exact s.workedAt_goOffline p
    · exact .refl p s
  case h_5 | h_6 =>
    split
    · unfold State.faultStrikes
      split
      · exact s.workedAt_revokePort p _
      · exact s.workedAt_suspend p
    · exact .refl p s
  case h_7 =>
    split
    · exact s.workedAt_resume p
    · exact .refl p s

theorem State.workedAt_stray (s : State) (p : PortId) (ph : Phase) (c : ContactId) (x y : Coord) :
    s.WorkedAt p (s.stray p ph c x y) := by
  unfold State.stray
  split
  · exact .refl p s
  · exact s.workedAt_queueReport p _ _

theorem State.workedAt_forward (s : State) (z : ZoneId) (p : PortId) (ph : Phase) (c : ContactId) (x y : Coord) :
    s.WorkedAt p (s.forward z p ph c x y) := by
  unfold State.forward
  split
  · exact .refl p s
  · exact s.workedAt_queueReport p _ _

theorem State.workedAt_lookUp (s : State) (p : PortId) (ph : Phase) (c : ContactId) (x y : Coord) :
    s.WorkedAt p (s.lookUp p ph c x y) := by
  unfold State.lookUp
  split
  · exact (s.workedAt_setContact p c _).trans (State.workedAt_queueReport _ p _ _)
  · exact ((s.workedAt_setContact p c _).trans (State.workedAt_mapPort _ p _ ⟨rfl, rfl, rfl⟩)).trans
      (State.workedAt_stray _ p ph c x y)

theorem State.workedAt_handleReport (s : State) (p : PortId) (ph : Phase) (c : ContactId) (x y : Coord) :
    s.WorkedAt p (s.handleReport p ph c x y) := by
  refine State.WorkedAt.trans ?_ (State.workedAt_setContact _ p c _)
  cases ph with
  | down =>
    refine State.WorkedAt.trans ?_ (State.workedAt_lookUp _ p .down c x y)
    split
    · split
      · exact .refl p s
      · exact s.workedAt_queueReport p _ _
    · exact .refl p s
    · exact .refl p s
  | move =>
    simp only [State.moveReport]
    split
    · exact s.workedAt_forward _ p .move c x y
    · exact s.workedAt_stray p .move c x y
    · exact s.workedAt_lookUp p .move c x y
  | up =>
    simp only [State.upReport]
    split
    · exact (s.workedAt_forward _ p .up c x y).trans (State.workedAt_setContact _ p c _)
    · exact (s.workedAt_stray p .up c x y).trans (State.workedAt_setContact _ p c _)
    · exact s.workedAt_mapPort p _ ⟨rfl, rfl, rfl⟩

theorem State.workedAt_completeReport (s : State) (p : PortId) (lead d1 d2 d3 d4 : Byte) :
    s.WorkedAt p (s.completeReport p lead d1 d2 d3 d4) := by
  unfold State.completeReport
  split
  · exact (s.workedAt_mapPort p _ ⟨rfl, rfl, rfl⟩).trans (State.workedAt_handleReport _ p _ _ _ _)
  · exact s.workedAt_mapPort p _ ⟨rfl, rfl, rfl⟩

theorem State.workedAt_panelByte (s : State) (p : PortId) (b : Byte) (error : Bool) :
    s.WorkedAt p (s.panelByte p b error) := by
  unfold State.panelByte
  split
  · split
    · exact s.workedAt_mapPort p _ (Port.keepsLines_damageReport _)
    · unfold State.assembleByte
      split
      · split <;> exact s.workedAt_mapPort p _ ⟨rfl, rfl, rfl⟩
      · split
        · exact s.workedAt_mapPort p _ ⟨rfl, rfl, rfl⟩
        · unfold State.reportByte
          split
          · exact (s.workedAt_mapPort p _ ⟨rfl, rfl, rfl⟩).trans (State.workedAt_completeReport _ p _ _ _ _ _)
          · exact s.workedAt_mapPort p _ ⟨rfl, rfl, rfl⟩
  · exact .refl p s

theorem State.workedAt_dataByte (s : State) (p : PortId) (b : Byte) : s.WorkedAt p (s.dataByte p b) := by
  unfold State.dataByte
  split
  · unfold State.storeByte
    split
    · exact s.workedAt_mapPort p _ ⟨rfl, rfl, rfl⟩
    · next i bytes _ =>
      have stored : (s.port p).KeepsLines { (s.port p).setInb i (.filling (bytes ++ [b])) with
          gatherTimer := some (s.port p).profile.gatherTime.toNat } := (Port.keepsLines_setInb _ i _).trans ⟨rfl, rfl, rfl⟩
      dsimp only
      split
      · exact (s.workedAt_mapPort p _ stored).trans (State.workedAt_handFilling _ p)
      · exact (s.workedAt_mapPort p _ stored).trans (State.workedAt_mapPort _ p _ (Port.keepsLines_judge _))
  · exact s.workedAt_mapPort p _ ⟨rfl, rfl, rfl⟩

theorem State.workedAt_jobByte (s : State) (p : PortId) (b : Byte) (error : Bool) :
    s.WorkedAt p (s.jobByte p b error) := by
  unfold State.jobByte
  dsimp only
  split
  · split
    · exact s.workedAt_mapPort p _ (Port.keepsLines_setFlow _ _)
    · split
      · exact s.workedAt_mapPort p _ (Port.keepsLines_setFlow _ _)
      · split
        · exact (s.workedAt_mapPort p _ (Port.keepsLines_setFlow _ _)).trans (State.workedAt_dataByte _ p b)
        · exact s.workedAt_dataByte p b
  · exact s.workedAt_dataByte p b

theorem Port.keepsLines_breakCounted (x : Port) (f : PortCounters → PortCounters) :
    x.KeepsLines (match x.profile.kind with
      | .job => x.mapCounters f
      | .panel => if x.state = .idle then (x.mapCounters f).damageReport else x.mapCounters f) := by
  split
  · exact ⟨rfl, rfl, rfl⟩
  · split
    · exact .trans (b := x.mapCounters f) ⟨rfl, rfl, rfl⟩ (Port.keepsLines_damageReport _)
    · exact ⟨rfl, rfl, rfl⟩

theorem State.workedAt_takeCharacter (s : State) (p : PortId) (c : RxChar) : s.WorkedAt p (s.takeCharacter p c) := by
  unfold State.takeCharacter
  dsimp only
  have begun : s.WorkedAt p (s.mapPort p (fun x => { x with rxOldFormats := [] })) :=
    s.workedAt_mapPort p _ ⟨rfl, rfl, rfl⟩
  split
  · exact begun.trans (State.workedAt_mapPort _ p _ (Port.keepsLines_breakCounted _ _))
  · have counted := begun.trans (State.workedAt_mapPort _ p (fun x => x.mapCounters (PortCounters.countErrors
      (RxChar.parityError ((s.port p).rxFormat c) c) (RxChar.framingError c))) ⟨rfl, rfl, rfl⟩)
    split
    · exact counted.trans (State.workedAt_jobByte _ p _ _)
    · exact counted.trans (State.workedAt_panelByte _ p _ _)

theorem State.workedAt_noticeCredit (s : State) (p : PortId) : s.WorkedAt p (s.noticeCredit p) := by
  unfold State.noticeCredit
  split
  · exact s.workedAt_enterNotice p _ _
  · exact .refl p s
  · exact .refl p s

theorem Port.keepsLines_freeOut (x : Port) (b : BufId) : x.KeepsLines (x.freeOut b) :=
  (x.keepsLines_setOutb b none).trans ⟨rfl, rfl, rfl⟩

theorem State.workedAt_drain (s : State) (p : PortId) (b : BufId) : s.WorkedAt p (s.drain p b) := by
  unfold State.drain
  dsimp only
  have freed := (s.workedAt_mapPort p _ (Port.keepsLines_freeOut _ b)).trans (State.workedAt_noticeCredit _ p)
  split
  · exact freed.trans (State.workedAt_completeDrain _ p)
  · exact freed.trans (State.workedAt_mapPort _ p _ (Port.keepsLines_judge _))

theorem State.workedAt_characterDone (s : State) (p : PortId) : s.WorkedAt p (s.characterDone p) := by
  unfold State.characterDone
  dsimp only
  have done : s.WorkedAt p (s.mapPort p (fun x => { x with tx := .rest })) := s.workedAt_mapPort p _ ⟨rfl, rfl, rfl⟩
  split
  case h_4 =>
    split
    · exact done
    · split
      · exact done.trans (State.workedAt_mapPort _ p _ (Port.keepsLines_setOutb _ _ _))
      · exact done.trans (State.workedAt_drain _ p _)
  all_goals exact done

end

/-! ## Events of a port -/

/-- t is s after events of port p: as State.WorkedAt says, save that the lines and line states of p may have changed. -/
structure State.EventAt (p : PortId) (s t : State) : Prop where
  inReset : t.inReset = s.inReset
  windows : t.windows = s.windows
  zones : t.zones = s.zones
  reportLink : t.reportLink = s.reportLink
  restart : t.restart = s.restart
  choices : t.choices = s.choices
  pending : t.pending = s.pending
  links : ∀ k : LinkId, (s.link k).Delivered (t.link k)
  profile : (t.port p).profile = (s.port p).profile
  ports : ∀ q : PortId, q ≠ p → t.port q = s.port q
  leases : ∀ r : Resource, r ≠ .port p → t.lease r = s.lease r

theorem State.EventAt.refl (p : PortId) (s : State) : s.EventAt p s :=
  ⟨rfl, rfl, rfl, rfl, rfl, rfl, rfl, fun _ => rfl, rfl, fun _ _ => rfl, fun _ _ => rfl⟩

theorem State.EventAt.trans {p : PortId} {a b c : State} (h : a.EventAt p b) (g : b.EventAt p c) : a.EventAt p c :=
  ⟨g.inReset.trans h.inReset, g.windows.trans h.windows, g.zones.trans h.zones, g.reportLink.trans h.reportLink,
    g.restart.trans h.restart, g.choices.trans h.choices, g.pending.trans h.pending,
    fun k => (h.links k).trans (g.links k), g.profile.trans h.profile, fun q e => (g.ports q e).trans (h.ports q e),
    fun r e => (g.leases r e).trans (h.leases r e)⟩

theorem State.WorkedAt.event {p : PortId} {s t : State} (w : s.WorkedAt p t) : s.EventAt p t :=
  ⟨w.worked.inReset, w.worked.windows, w.worked.zones, w.worked.reportLink, w.worked.restart, w.worked.choices,
    w.worked.pending, w.worked.links, w.worked.profile p, w.ports, w.leases⟩

theorem State.eventAt_mapPort (s : State) (p : PortId) (f : Port → Port)
    (profile : (f (s.port p)).profile = (s.port p).profile) : s.EventAt p (s.mapPort p f) :=
  ⟨rfl, rfl, rfl, rfl, rfl, rfl, rfl, fun _ => rfl, by rw [State.port_mapPort_self, profile],
    fun q e => by rw [State.port_mapPort, if_neg e], fun r _ => s.lease_mapPort p f r⟩

theorem State.eventAt_takeReady (s : State) (p : PortId) : s.EventAt p (s.takeReady p) := by
  unfold State.takeReady
  dsimp only
  have taken := s.eventAt_mapPort p Port.takeReady rfl
  split
  · exact taken
  · split
    · exact taken.trans (State.workedAt_readyMoves _ p _ _).event
    · exact taken.trans (State.workedAt_panelFollows _ p _).event

theorem State.eventAt_takeFault (s : State) (p : PortId) : s.EventAt p (s.takeFault p) := by
  unfold State.takeFault
  dsimp only
  have taken := s.eventAt_mapPort p Port.takeFault rfl
  split
  · exact taken
  · split
    · exact taken.trans (State.workedAt_faultMoves _ p _ _).event
    · exact taken.trans (State.workedAt_panelFollows _ p _).event

theorem State.PortMove.event {p : PortId} {s t : State} (m : s.PortMove p t) : s.EventAt p t := by
  cases m with
  | readyLine level => exact s.eventAt_mapPort p _ rfl
  | faultLine level => exact s.eventAt_mapPort p _ rfl
  | ready => exact s.eventAt_takeReady p
  | fault => exact s.eventAt_takeFault p
  | idle => exact (s.eventAt_mapPort p _ rfl).trans (State.workedAt_revokePort _ p _).event
  | grace => exact (s.eventAt_mapPort p _ rfl).trans (State.workedAt_revokePort _ p _).event
  | stall => exact (s.eventAt_mapPort p _ rfl).trans (State.workedAt_revokePort _ p _).event
  | turn =>
    unfold State.expireTurn
    dsimp only
    have cleared := s.eventAt_mapPort p (fun x => { x with turnTimer := none }) rfl
    split
    · exact cleared.trans (State.workedAt_enterIdle _ p).event
    · exact cleared
  | gather => exact (s.eventAt_mapPort p _ rfl).trans (State.workedAt_handFilling _ p).event
  | received c => exact (s.workedAt_takeCharacter p c).event
  | sent busy =>
    exact ((s.eventAt_mapPort p (Port.readBusy busy) rfl).trans (State.workedAt_characterDone _ p).event).trans
      (State.eventAt_mapPort _ p _ (Port.keepsLines_chooseJudge _).1)
  | busyNegated => exact s.eventAt_mapPort p _ (Port.keepsLines_busyNegated _).1

theorem State.eventAt_exec {s t : State} {c : Instr} {p : PortId} (port : Instr.portOf c = some p)
    (h : exec c s = .next t) : s.EventAt p t := by
  have run := portRun_exec port h
  clear h
  induction run with
  | refl => exact .refl p s
  | tail _ last ih => exact ih.trans last.event

/-! ## Events of one link -/

/-- t is s after events of link k alone, which keep its profile and its present state. -/
structure State.LinkEvent (k : LinkId) (s t : State) : Prop where
  only : t = s.setLink k (t.link k)
  profile : (t.link k).profile = (s.link k).profile
  present : (t.link k).present = (s.link k).present

theorem State.LinkEvent.refl (k : LinkId) (s : State) : s.LinkEvent k s := ⟨(s.setLink_link k).symm, rfl, rfl⟩

theorem State.LinkEvent.trans {k : LinkId} {a b c : State} (h : a.LinkEvent k b) (g : b.LinkEvent k c) :
    a.LinkEvent k c := by
  refine ⟨?_, g.profile.trans h.profile, g.present.trans h.present⟩
  calc c = b.setLink k (c.link k) := g.only
    _ = (a.setLink k (b.link k)).setLink k (c.link k) := by rw [← h.only]
    _ = a.setLink k (c.link k) := State.setLink_setLink a k _ _

theorem State.linkEvent_mapLink (s : State) (k : LinkId) (f : Link → Link)
    (profile : (f (s.link k)).profile = (s.link k).profile) (present : (f (s.link k)).present = (s.link k).present) :
    s.LinkEvent k (s.mapLink k f) := by
  refine ⟨?_, ?_, ?_⟩
  · rw [State.link_mapLink_self]
    rfl
  · rw [State.link_mapLink_self, profile]
  · rw [State.link_mapLink_self, present]

theorem State.linkEvent_live {k : LinkId} {s t u : State} (h : s.live u = .next t) (e : s.LinkEvent k u) :
    s.LinkEvent k t := by
  unfold State.live at h
  split at h
  · cases h
    exact .refl k s
  · cases h
    exact e

@[simp] theorem Link.present_judgeHold (was : Nat) (l : Link) : (l.judgeHold was).present = l.present := by
  unfold Link.judgeHold
  split <;> rfl

theorem Link.present_placeAnswer (tag : Byte) (address : Word) (a : Answer) (l : Link) :
    (l.placeAnswer tag address a).present = l.present := by
  unfold Link.placeAnswer
  dsimp only
  split <;> rfl

theorem State.linkEvent_boundary (s : State) (k : LinkId) (holdIn : Bool) : s.LinkEvent k (s.boundary k holdIn) := by
  obtain ⟨control, touch, tx, rate, -, -, same⟩ := s.boundary_eq k holdIn
  rw [same]
  exact s.linkEvent_mapLink k (fun _ => _) rfl rfl

theorem linkEvent_frameTaken {s t : State} {k : LinkId} (h : exec (.frameTaken k) s = .next t) : s.LinkEvent k t := by
  refine State.linkEvent_live h ?_
  split
  · exact .refl k s
  · next f fs _ =>
    split
    · have taken : s.LinkEvent k (s.mapLink k (fun l => Link.judgeHold l.occupancy { l with ingress := fs })) :=
        s.linkEvent_mapLink k _ (by simp) (by simp)
      dsimp only
      split
      · exact taken.trans (State.linkEvent_mapLink _ k _ (Link.profile_placeAnswer _ _ _ _)
          (Link.present_placeAnswer _ _ _ _))
      · exact taken.trans (State.linkEvent_mapLink _ k _ rfl rfl)
    · exact .refl k s

theorem linkEvent_noticeMove {s t : State} {k : LinkId} (h : exec (.noticeMove k) s = .next t) : s.LinkEvent k t := by
  refine State.linkEvent_live h ?_
  split
  · exact .refl k s
  · split
    · exact s.linkEvent_mapLink k _ rfl rfl
    · exact .refl k s

/-- Settles O49: an event of a port is a chain of moves at the port, and the four events of a link change one link. -/
theorem eventsLeaveTheRestAlone : Obligations.EventsLeaveTheRestAlone := by
  constructor
  · intro s t c p port h
    have e := State.eventAt_exec port h
    exact ⟨e.ports, e.profile, e.windows, e.zones, e.reportLink, e.restart, e.inReset, e.pending, e.choices, e.leases,
      e.links⟩
  · intro s t k c event h
    have e : s.LinkEvent k t := by
      rcases event with ⟨b, rfl⟩ | rfl | rfl | ⟨holdIn, rfl⟩
      · refine State.linkEvent_live h ?_
        split
        · have same := (s.link k).sameQueues_receiveByte b.data
          exact s.linkEvent_mapLink k _ same.profile same.present
        · exact .refl k s
      · exact linkEvent_frameTaken h
      · exact linkEvent_noticeMove h
      · refine State.linkEvent_live h ?_
        split
        · exact s.linkEvent_boundary k holdIn
        · exact .refl k s
        · exact .refl k s
    exact ⟨e.only, e.profile, e.present⟩

end Sys2Proof.Machine
end

section
/-! PROOF. Ports, leases and credit in agreement (R72, R105, R125, R144), and the wait pool in order with no entry for a
grantable resource (R75, R77). -/

namespace Sys2Proof.Machine

/-! ## A port and its lease -/

/-- A port x and its lease agree; what JobInv says of each port. -/
structure JobOk (x : Port) (l : Lease) : Prop where
  select : x.select = x.state.isJob
  lease : x.state.isJob = l.holding.isSome
  remembered : ∀ st : PortState, x.remembered = some st → st.isJob = true
  panel : x.profile.kind = .panel → x.state = .disabled ∨ x.state = .offline ∨ x.state = .idle
  held : x.state.isJob = true → x.credit + x.occupied = 2
  free : x.state.isJob = false → x.credit = 0 ∧ x.occupied = 0

theorem jobInv_iff (s : State) : JobInv s ↔ ∀ p, JobOk (s.port p) (s.lease (.port p)) :=
  ⟨fun ⟨select, lease, remembered, panel, held, free⟩ p =>
    ⟨select p, lease p, remembered p, panel p, held p, free p⟩,
    fun h => ⟨fun p => (h p).select, fun p => (h p).lease, fun p => (h p).remembered, fun p => (h p).panel,
      fun p => (h p).held, fun p => (h p).free⟩⟩

/-- A port with nothing kept for a job. -/
structure Port.Vacant (x : Port) : Prop where
  remembered : ∀ st : PortState, x.remembered = some st → st.isJob = true
  credit : x.credit = 0
  occupied : x.occupied = 0

/-- A port whose state and whose store for the job are as those of x. -/
structure Port.SameJob (x y : Port) : Prop where
  state : y.state = x.state
  select : y.select = x.select
  remembered : y.remembered = x.remembered
  kind : y.profile.kind = x.profile.kind
  credit : y.credit = x.credit
  occupied : y.occupied = x.occupied

theorem Port.SameJob.refl (x : Port) : x.SameJob x := ⟨rfl, rfl, rfl, rfl, rfl, rfl⟩

theorem Port.SameJob.trans {a b c : Port} (h : a.SameJob b) (g : b.SameJob c) : a.SameJob c :=
  ⟨g.state.trans h.state, g.select.trans h.select, g.remembered.trans h.remembered, g.kind.trans h.kind,
    g.credit.trans h.credit, g.occupied.trans h.occupied⟩

theorem JobOk.same {x y : Port} {l : Lease} (h : JobOk x l) (same : x.SameJob y) : JobOk y l := by
  obtain ⟨state, select, remembered, kind, credit, occupied⟩ := same
  obtain ⟨h1, h2, h3, h4, h5, h6⟩ := h
  constructor
  · rw [select, state]; exact h1
  · rw [state]; exact h2
  · rw [remembered]; exact h3
  · rw [kind, state]; exact h4
  · rw [state, credit, occupied]; exact h5
  · rw [state, credit, occupied]; exact h6

theorem Port.Vacant.same {x y : Port} (h : x.Vacant) (same : x.SameJob y) : y.Vacant :=
  ⟨by rw [same.remembered]; exact h.remembered, by rw [same.credit]; exact h.credit,
    by rw [same.occupied]; exact h.occupied⟩

/-- No job is open: nothing is kept for one, and the lease is FREE. -/
theorem JobOk.vacant {x : Port} {l : Lease} (h : JobOk x l) (noJob : x.state.isJob = false) : x.Vacant ∧ l = .free := by
  obtain ⟨credit, occupied⟩ := h.free noJob
  refine ⟨⟨h.remembered, credit, occupied⟩, ?_⟩
  have notHeld := h.lease
  rw [noJob] at notHeld
  cases l with
  | free => rfl
  | held g => cases notHeld
  | releasing g => cases notHeld

theorem JobOk.isJob {x : Port} {l : Lease} (h : JobOk x l) {g : Holding} (held : l.holding = some g) :
    x.state.isJob = true := by
  rw [h.lease, held, Option.isSome_some]

/-- A port with an open job is of kind JOB. -/
theorem JobOk.kind {x : Port} {l : Lease} (h : JobOk x l) (job : x.state.isJob = true) : x.profile.kind = .job := by
  cases kind : x.profile.kind with
  | job => rfl
  | panel => rcases h.panel kind with state | state | state <;> (rw [state] at job; cases job)

/-- A vacant port in a state without a job, which SELECT follows, agrees with a FREE lease. -/
theorem Port.Vacant.jobOk {x : Port} (h : x.Vacant) (select : x.select = x.state.isJob) (noJob : x.state.isJob = false)
    (panel : x.profile.kind = .panel → x.state = .disabled ∨ x.state = .offline ∨ x.state = .idle) :
    JobOk x .free :=
  ⟨select, noJob, h.remembered, panel, fun job => absurd (noJob.symm.trans job) Bool.false_ne_true,
    fun _ => ⟨h.credit, h.occupied⟩⟩

/-! ## Operations of a port that keep its job -/

@[simp] theorem Port.outb_setOutb (x : Port) (b : BufId) (o : Option OutBuf) : (x.setOutb b o).outb b = o := by
  cases b <;> rfl

@[simp] theorem Port.outb_setOutb_other (x : Port) (b : BufId) (o : Option OutBuf) :
    (x.setOutb b o).outb b.other = x.outb b.other := by
  cases b <;> rfl

/-- The occupied buffers, counted from either buffer. -/
theorem Port.occupied_eq (x : Port) (b : BufId) :
    x.occupied = (if (x.outb b).isSome then 1 else 0) + (if (x.outb b.other).isSome then 1 else 0) := by
  cases b
  · rfl
  · exact Nat.add_comm _ _

/-- Occupied buffers after a buffer is replaced. -/
theorem Port.occupied_setOutb (x : Port) (b : BufId) (o : Option OutBuf) :
    (x.setOutb b o).occupied = (if o.isSome then 1 else 0) + (if (x.outb b.other).isSome then 1 else 0) := by
  rw [Port.occupied_eq _ b, Port.outb_setOutb, Port.outb_setOutb_other]

section
variable (x : Port)

theorem Port.sameJob_setPause (want : Bool) : x.SameJob (x.setPause want) := by
  unfold Port.setPause
  split
  · exact .refl x
  · split <;> exact ⟨rfl, rfl, rfl, rfl, rfl, rfl⟩

theorem Port.sameJob_judge : x.SameJob x.judge :=
  (x.sameJob_setPause x.wantsPause).trans ⟨rfl, rfl, rfl, rfl, rfl, rfl⟩

theorem Port.sameJob_setInb (b : BufId) (i : InBuf) : x.SameJob (x.setInb b i) := by
  cases b <;> exact ⟨rfl, rfl, rfl, rfl, rfl, rfl⟩

theorem Port.sameJob_startFilling : x.SameJob x.startFilling := by
  unfold Port.startFilling
  split
  · exact .refl x
  · split
    · exact ⟨rfl, rfl, rfl, rfl, rfl, rfl⟩
    · split <;> exact ⟨rfl, rfl, rfl, rfl, rfl, rfl⟩

theorem Port.sameJob_returnBuffer (b : BufId) : x.SameJob (x.returnBuffer b) := by
  unfold Port.returnBuffer
  refine .trans ?_ (Port.sameJob_judge _)
  split
  · exact (x.sameJob_setInb b _).trans (Port.sameJob_setInb _ b _)
  · exact x.sameJob_setInb b _

theorem Port.sameJob_choose : x.SameJob x.choose := by
  unfold Port.choose
  dsimp only
  split
  · exact ⟨rfl, rfl, rfl, rfl, rfl, rfl⟩
  · split
    · exact ⟨rfl, rfl, rfl, rfl, rfl, rfl⟩
    · split <;> exact ⟨rfl, rfl, rfl, rfl, rfl, rfl⟩

theorem Port.sameJob_busyNegated : x.SameJob x.busyNegated := by
  unfold Port.busyNegated
  refine .trans ?_ (Port.sameJob_judge _)
  split
  · exact .trans (b := x.readBusy false) ⟨rfl, rfl, rfl, rfl, rfl, rfl⟩ (Port.sameJob_choose _)
  · exact ⟨rfl, rfl, rfl, rfl, rfl, rfl⟩

theorem Port.sameJob_setFlow (f : FlowState) : x.SameJob (x.setFlow f) :=
  .trans (b := { x with flow := f }) ⟨rfl, rfl, rfl, rfl, rfl, rfl⟩ (Port.sameJob_judge _)

theorem Port.sameJob_damageReport : x.SameJob x.damageReport := by
  unfold Port.damageReport
  split <;> exact ⟨rfl, rfl, rfl, rfl, rfl, rfl⟩

theorem Port.sameJob_breakCounted (f : PortCounters → PortCounters) :
    x.SameJob (match x.profile.kind with
      | .job => x.mapCounters f
      | .panel => if x.state = .idle then (x.mapCounters f).damageReport else x.mapCounters f) := by
  split
  · exact ⟨rfl, rfl, rfl, rfl, rfl, rfl⟩
  · split
    · exact .trans (b := x.mapCounters f) ⟨rfl, rfl, rfl, rfl, rfl, rfl⟩ (Port.sameJob_damageReport _)
    · exact ⟨rfl, rfl, rfl, rfl, rfl, rfl⟩

/-- Sending a byte leaves the buffer occupied. -/
theorem Port.sameJob_advance (b : BufId) (o old : OutBuf) (occupied : x.outb b = some old) : x.SameJob (x.advance b o) := by
  have same : (x.advance b o).occupied = x.occupied := by
    rw [Port.advance, Port.occupied_setOutb, Port.occupied_eq x b, occupied]
    rfl
  cases b <;> exact ⟨rfl, rfl, rfl, rfl, rfl, same⟩

/-- After the end of a job nothing is kept for it. -/
theorem Port.vacant_closeJob : x.closeJob.Vacant := by
  unfold Port.closeJob
  refine Port.Vacant.same ?_ (Port.sameJob_setPause _ _)
  exact ⟨fun _ e => (Option.some_ne_none _ e.symm).elim, rfl, rfl⟩

theorem Port.vacant_completeJob : x.completeJob.Vacant :=
  x.vacant_closeJob.same ⟨rfl, rfl, rfl, rfl, rfl, rfl⟩

end

/-- A drained buffer turns into credit. -/
theorem JobOk.freeOut {x : Port} {l : Lease} (h : JobOk x l) {b : BufId} {o : OutBuf} (occupied : x.outb b = some o) :
    JobOk (x.freeOut b) l := by
  have before := x.occupied_eq b
  have after : (x.freeOut b).occupied = (if (none : Option OutBuf).isSome then 1 else 0) +
    (if (x.outb b.other).isSome then 1 else 0) := x.occupied_setOutb b none
  have credit : (x.freeOut b).credit = x.credit + 1 := rfl
  simp only [occupied, Option.isSome_some, Option.isSome_none, if_true, Bool.false_eq_true, if_false] at before after
  have one : (x.freeOut b).credit + (x.freeOut b).occupied = x.credit + x.occupied := by omega
  have some : x.occupied ≠ 0 := by omega
  have fields : (x.freeOut b).state = x.state ∧ (x.freeOut b).select = x.select ∧
      (x.freeOut b).remembered = x.remembered ∧ (x.freeOut b).profile = x.profile := by
    cases b <;> exact ⟨rfl, rfl, rfl, rfl⟩
  obtain ⟨state, select, remembered, profile⟩ := fields
  obtain ⟨h1, h2, h3, h4, h5, h6⟩ := h
  constructor
  · rw [select, state]; exact h1
  · rw [state]; exact h2
  · rw [remembered]; exact h3
  · rw [profile, state]; exact h4
  · rw [state, one]; exact h5
  · rw [state]
    exact fun noJob => absurd (h6 noJob).2 some

/-- Data staged takes a credit and a buffer; with a credit left a buffer is free (R125, R126). -/
theorem JobOk.stage {x : Port} {l : Lease} (h : JobOk x l) (payload : List Byte) (credit : x.credit ≠ 0) :
    JobOk (x.stage payload) l := by
  have job : x.state.isJob = true := by
    cases job : x.state.isJob with
    | true => rfl
    | false => exact absurd (h.free job).1 credit
  have two := h.held job
  have empty : ∃ b : BufId, x.outb b = none ∧ x.stage payload =
      Port.judge { x.setOutb b (some ⟨payload, 0⟩) with fillOrder := x.fillOrder ++ [b], credit := x.credit - 1 } := by
    cases first : x.o0 with
    | none => exact ⟨.b0, first, by simp [Port.stage, first]⟩
    | some o =>
      refine ⟨.b1, ?_, by simp [Port.stage, first]⟩
      cases second : x.o1 with
      | none => exact second
      | some o =>
        have full : x.occupied = 2 := by simp [Port.occupied, first, second]
        omega
  obtain ⟨b, empty, staged⟩ := empty
  have before := x.occupied_eq b
  have after := x.occupied_setOutb b (some ⟨payload, 0⟩)
  simp only [empty, Option.isSome_some, Option.isSome_none, if_true, Bool.false_eq_true, if_false] at before after
  have total : (x.credit - 1) + (x.setOutb b (some ⟨payload, 0⟩)).occupied = 2 := by omega
  rw [staged]
  refine JobOk.same ?_ (Port.sameJob_judge _)
  obtain ⟨h1, h2, h3, h4, -, -⟩ := h
  cases b <;>
    exact ⟨h1, h2, h3, h4, fun _ => total, fun noJob => absurd (job.symm.trans noJob) Bool.noConfusion⟩

/-! ## Waiters of a resource -/

/-- Nothing waits for r while it is grantable (R77). -/
def State.NoneWaits (s : State) (r : Resource) : Prop := s.grantable r = true → s.queueOf r = []

theorem State.queueOf_sublist {s t : State} (fewer : t.waits.Sublist s.waits) (r : Resource) :
    (t.queueOf r).Sublist (s.queueOf r) := fewer.filter _

theorem State.NoneWaits.mono {s t : State} {r : Resource} (h : s.NoneWaits r) (fewer : t.waits.Sublist s.waits)
    (grantable : t.grantable r = true → s.grantable r = true) : t.NoneWaits r := by
  intro can
  have empty := State.queueOf_sublist fewer r
  rw [h (grantable can)] at empty
  exact List.sublist_nil.1 empty

/-- A port that is not IDLE is not grantable. -/
theorem State.noneWaits_of_state {s : State} {p : PortId} (notIdle : (s.port p).state ≠ .idle) : s.NoneWaits (.port p) := by
  intro can
  simp [State.grantable, notIdle] at can

/-- A resource with a holding is not grantable. -/
theorem State.noneWaits_of_held {s : State} {r : Resource} {h : Holding} (held : s.lease r = .held h) : s.NoneWaits r := by
  intro can
  cases r <;> simp [State.grantable, held] at can

@[simp] theorem State.lease_grant (s : State) (r : Resource) (h : Holding) : (s.grant r h).lease r = .held h := by
  cases r with
  | port p => simp [State.grant, State.openPort]
  | zone z => simp [State.grant]

/-- A grant from the queue leaves no waiter at a grantable resource. -/
theorem State.noneWaits_grantHead (s : State) (r : Resource) : (s.grantHead r).NoneWaits r := by
  unfold State.grantHead
  split
  · split
    · next empty => exact fun _ => empty
    · exact State.noneWaits_of_held (by rw [State.lease_enterNotice, State.lease_grant])
  · next notGrantable => exact fun can => absurd can notGrantable

/-! ## What is kept, with the pool or without -/

/-- What is kept of a resource: of a port that it agrees with its lease, and, when W holds, that nothing waits for the
resource while it is grantable. -/
def State.ResourceOk (W : Prop) (s : State) : Resource → Prop
  | .port p => JobOk (s.port p) (s.lease (.port p)) ∧ (W → s.NoneWaits (.port p))
  | .zone z => W → s.NoneWaits (.zone z)

/-- What is kept of every resource, and, when W holds, of the order of the pool. -/
structure JobsOk (W : Prop) (s : State) : Prop where
  resources : ∀ r : Resource, s.ResourceOk W r
  order : W → s.waits.Pairwise (fun v w => v.order ≤ w.order)

theorem jobsOk_false_iff (s : State) : JobsOk False s ↔ JobInv s := by
  rw [jobInv_iff]
  constructor
  · exact fun h p => (h.resources (.port p)).1
  · intro h
    refine ⟨fun r => ?_, fun no => no.elim⟩
    cases r with
    | port p => exact ⟨h p, fun no => no.elim⟩
    | zone z => exact fun no => no.elim

theorem jobsOk_true_iff (s : State) : JobsOk True s ↔ JobInv s ∧ WaitInv s := by
  rw [jobInv_iff]
  constructor
  · intro h
    refine ⟨fun p => (h.resources (.port p)).1, h.order trivial, fun r => ?_⟩
    cases r with
    | port p => exact (h.resources (.port p)).2 trivial
    | zone z => exact h.resources (.zone z) trivial
  · rintro ⟨jobs, order, grantable⟩
    refine ⟨fun r => ?_, fun _ => order⟩
    cases r with
    | port p => exact ⟨jobs p, fun _ => grantable _⟩
    | zone z => exact fun _ => grantable _

/-- Between s and t resource r keeps its job, its lease and its record, and waiters may have left. -/
structure State.KeepsAt (r : Resource) (s t : State) : Prop where
  port : ∀ p : PortId, r = .port p → (s.port p).SameJob (t.port p)
  zone : ∀ z : ZoneId, r = .zone z → (t.zone z).enabled = (s.zone z).enabled
  lease : t.lease r = s.lease r
  waits : t.waits.Sublist s.waits

theorem State.KeepsAt.trans {r : Resource} {a b c : State} (h : a.KeepsAt r b) (g : b.KeepsAt r c) : a.KeepsAt r c :=
  ⟨fun p e => (h.port p e).trans (g.port p e), fun z e => (g.zone z e).trans (h.zone z e), g.lease.trans h.lease,
    g.waits.trans h.waits⟩

theorem State.KeepsAt.refl (r : Resource) (s : State) : s.KeepsAt r s :=
  ⟨fun _ _ => .refl _, fun _ _ => rfl, rfl, .refl _⟩

theorem State.ResourceOk.keeps {W : Prop} {s t : State} {r : Resource} (h : s.ResourceOk W r) (k : s.KeepsAt r t) :
    t.ResourceOk W r := by
  cases r with
  | port p =>
    obtain ⟨job, waits⟩ := h
    have same := k.port p rfl
    refine ⟨by rw [k.lease]; exact job.same same, fun w => (waits w).mono k.waits fun can => ?_⟩
    rwa [State.grantable, same.kind, same.state, k.lease, ← State.grantable] at can
  | zone z =>
    refine fun w => (h w).mono k.waits fun can => ?_
    rwa [State.grantable, k.zone z rfl, k.lease, ← State.grantable] at can

/-- What keeps every resource but r0, which is judged afresh. -/
theorem JobsOk.frame {W : Prop} {s t : State} (h : JobsOk W s) (r0 : Resource) (others : ∀ r, r ≠ r0 → s.KeepsAt r t)
    (waits : t.waits.Sublist s.waits) (ok : t.ResourceOk W r0) : JobsOk W t := by
  refine ⟨fun r => ?_, fun w => (h.order w).sublist waits⟩
  by_cases same : r = r0
  · exact same ▸ ok
  · exact (h.resources r).keeps (others r same)

theorem JobsOk.keeps {W : Prop} {s t : State} (h : JobsOk W s) (keeps : ∀ r, s.KeepsAt r t) : JobsOk W t :=
  h.frame (.port 0) (fun r _ => keeps r) (keeps (.port 0)).waits ((h.resources _).keeps (keeps _))

/-! ## Small operations that keep resources -/

section
variable (s : State) (r : Resource)

theorem State.keepsAt_mapLink (k : LinkId) (f : Link → Link) : s.KeepsAt r (s.mapLink k f) :=
  ⟨fun _ _ => .refl _, fun _ _ => rfl, s.lease_mapLink k f r, .refl _⟩

theorem State.keepsAt_mapPort (p : PortId) (f : Port → Port) (same : r = .port p → (s.port p).SameJob (f (s.port p))) :
    s.KeepsAt r (s.mapPort p f) := by
  refine ⟨fun q e => ?_, fun _ _ => rfl, s.lease_mapPort p f r, .refl _⟩
  rw [State.port_mapPort]
  split
  · next h => subst h; exact same e
  · exact .refl _

theorem State.keepsAt_enterNotice (k : LinkId) (n : Notice) : s.KeepsAt r (s.enterNotice k n) := by
  unfold State.enterNotice
  split
  · exact s.keepsAt_mapLink r k _
  · exact .refl r s

theorem State.keepsAt_setLease {q : Resource} (ne : r ≠ q) (l : Lease) : s.KeepsAt r (s.setLease q l) :=
  ⟨fun p _ => by rw [State.port_setLease]; exact .refl _, fun z _ => by rw [State.zone_setLease],
    State.lease_setLease_ne s l ne, by rw [State.waits_setLease]⟩

theorem State.keepsAt_setWaits (ws : List Wait) (fewer : ws.Sublist s.waits) : s.KeepsAt r (s.setWaits ws) :=
  ⟨fun _ _ => .refl _, fun _ _ => rfl, s.lease_setWaits ws r, fewer⟩

theorem State.keepsAt_foldl {α : Type} (f : State → α → State) (h : ∀ (t : State) (a : α), t.KeepsAt r (f t a)) :
    ∀ (as : List α) (t : State), t.KeepsAt r (as.foldl f t)
  | [], t => .refl r t
  | a :: as, t => (h t a).trans (State.keepsAt_foldl f h as (f t a))

/-- Work at port p keeps every other resource. -/
theorem State.EventAt.keepsAt {p : PortId} {s t : State} {r : Resource} (e : s.EventAt p t)
    (waits : t.waits.Sublist s.waits) (ne : r ≠ .port p) : s.KeepsAt r t := by
  refine ⟨fun q same => ?_, fun z _ => ?_, e.leases r ne, waits⟩
  · subst same
    rw [e.ports q (fun h => ne (by rw [h]))]
    exact .refl _
  · rw [State.zone, State.zone, e.zones]

theorem State.keepsAt_setContact (p : PortId) (c : ContactId) (x : Contact) : s.KeepsAt r (s.setContact p c x) :=
  s.keepsAt_mapPort r p _ fun _ => ⟨rfl, rfl, rfl, rfl, rfl, rfl⟩

theorem State.keepsAt_queueReport (k : LinkId) (x : Report) : s.KeepsAt r (s.queueReport k x) := s.keepsAt_mapLink r k _

theorem State.keepsAt_detach (p : PortId) (z : ZoneId) (tell : Option LinkId) (c : ContactId) :
    s.KeepsAt r (s.detach p z tell c) := by
  unfold State.detach
  dsimp only
  split
  · split
    · exact s.keepsAt_setContact r p c _
    · exact (s.keepsAt_queueReport r _ _).trans (State.keepsAt_setContact _ r p c _)
  · exact .refl r s

theorem State.keepsAt_detachZone (z : ZoneId) (tell : Option LinkId) : s.KeepsAt r (s.detachZone z tell) :=
  State.keepsAt_foldl r _ (fun t c => t.keepsAt_detach r _ z tell c) _ _

theorem State.keepsAt_freeContact (p : PortId) (c : ContactId) : s.KeepsAt r (s.freeContact p c) := by
  unfold State.freeContact
  refine State.KeepsAt.trans ?_ (State.keepsAt_setContact _ r p c _)
  split
  · split
    · exact .refl r s
    · exact s.keepsAt_queueReport r _ _
  · exact .refl r s
  · exact .refl r s

theorem State.keepsAt_panelLeavesIdle (p : PortId) : s.KeepsAt r (s.panelLeavesIdle p) :=
  (s.keepsAt_mapPort r p _ fun _ => ⟨rfl, rfl, rfl, rfl, rfl, rfl⟩).trans
    (State.keepsAt_foldl r _ (fun t c => t.keepsAt_freeContact r p c) _ _)

theorem State.keepsAt_dropWaits (q : Resource) : s.KeepsAt r (s.dropWaits q) :=
  (s.keepsAt_setWaits r _ List.filter_sublist).trans (State.keepsAt_foldl r _ (fun t _ => t.keepsAt_enterNotice r _ _) _ _)

theorem State.keepsAt_returnEntries (es : List DataEntry) : s.KeepsAt r (s.returnEntries es) :=
  State.keepsAt_foldl r _ (fun t (e : DataEntry) => t.keepsAt_mapPort r e.port _ fun _ => Port.sameJob_returnBuffer _ _) _ _

theorem State.keepsAt_handTo (p : PortId) (b : BufId) (bytes : List Byte) (k : LinkId) :
    s.KeepsAt r (s.handTo p b bytes k) :=
  (s.keepsAt_mapLink r k _).trans
    (State.keepsAt_mapPort _ r p _ fun _ => (Port.sameJob_setInb _ b _).trans ⟨rfl, rfl, rfl, rfl, rfl, rfl⟩)

theorem State.keepsAt_handFilling (p : PortId) : s.KeepsAt r (s.handFilling p) := by
  unfold State.handFilling
  split
  · split
    · exact .refl r s
    · exact (s.keepsAt_handTo r p _ _ _).trans
        (State.keepsAt_mapPort _ r p _ fun _ => (Port.sameJob_startFilling _).trans (Port.sameJob_judge _))
  · exact .refl r s

theorem State.keepsAt_stray (p : PortId) (ph : Phase) (c : ContactId) (x y : Coord) :
    s.KeepsAt r (s.stray p ph c x y) := by
  unfold State.stray
  split
  · exact .refl r s
  · exact s.keepsAt_queueReport r _ _

theorem State.keepsAt_forward (z : ZoneId) (p : PortId) (ph : Phase) (c : ContactId) (x y : Coord) :
    s.KeepsAt r (s.forward z p ph c x y) := by
  unfold State.forward
  split
  · exact .refl r s
  · exact s.keepsAt_queueReport r _ _

theorem State.keepsAt_lookUp (p : PortId) (ph : Phase) (c : ContactId) (x y : Coord) :
    s.KeepsAt r (s.lookUp p ph c x y) := by
  unfold State.lookUp
  split
  · exact (s.keepsAt_setContact r p c _).trans (State.keepsAt_queueReport _ r _ _)
  · exact ((s.keepsAt_setContact r p c _).trans
      (State.keepsAt_mapPort _ r p _ fun _ => ⟨rfl, rfl, rfl, rfl, rfl, rfl⟩)).trans (State.keepsAt_stray _ r p ph c x y)

theorem State.keepsAt_counted (p : PortId) (f : PortCounters → PortCounters) :
    s.KeepsAt r (s.mapPort p (fun x => x.mapCounters f)) :=
  s.keepsAt_mapPort r p _ fun _ => ⟨rfl, rfl, rfl, rfl, rfl, rfl⟩

theorem State.keepsAt_handleReport (p : PortId) (ph : Phase) (c : ContactId) (x y : Coord) :
    s.KeepsAt r (s.handleReport p ph c x y) := by
  refine State.KeepsAt.trans ?_ (State.keepsAt_setContact _ r p c _)
  cases ph with
  | down =>
    refine State.KeepsAt.trans ?_ (State.keepsAt_lookUp _ r p .down c x y)
    split
    · split
      · exact .refl r s
      · exact s.keepsAt_queueReport r _ _
    · exact .refl r s
    · exact .refl r s
  | move =>
    simp only [State.moveReport]
    split
    · exact s.keepsAt_forward r _ p .move c x y
    · exact s.keepsAt_stray r p .move c x y
    · exact s.keepsAt_lookUp r p .move c x y
  | up =>
    simp only [State.upReport]
    split
    · exact (s.keepsAt_forward r _ p .up c x y).trans (State.keepsAt_setContact _ r p c _)
    · exact (s.keepsAt_stray r p .up c x y).trans (State.keepsAt_setContact _ r p c _)
    · exact s.keepsAt_counted r p _

theorem State.keepsAt_panelByte (p : PortId) (b : Byte) (error : Bool) : s.KeepsAt r (s.panelByte p b error) := by
  have assembled (t : State) (a : Assembler) : t.KeepsAt r (t.mapPort p (Port.assemble a)) :=
    t.keepsAt_mapPort r p _ fun _ => ⟨rfl, rfl, rfl, rfl, rfl, rfl⟩
  unfold State.panelByte
  split
  · split
    · exact s.keepsAt_mapPort r p _ fun _ => Port.sameJob_damageReport _
    · unfold State.assembleByte
      split
      · split
        · exact assembled s _
        · exact s.keepsAt_counted r p _
      · split
        · exact s.keepsAt_mapPort r p _ fun _ => ⟨rfl, rfl, rfl, rfl, rfl, rfl⟩
        · unfold State.reportByte
          split
          · refine (assembled s .waiting).trans ?_
            unfold State.completeReport
            split
            · exact (State.keepsAt_counted _ r p _).trans (State.keepsAt_handleReport _ r p _ _ _ _)
            · exact State.keepsAt_counted _ r p _
          · exact assembled s _
  · exact .refl r s

theorem State.keepsAt_dataByte (p : PortId) (b : Byte) : s.KeepsAt r (s.dataByte p b) := by
  unfold State.dataByte
  split
  · unfold State.storeByte
    split
    · exact s.keepsAt_counted r p _
    · next i bytes _ =>
      have stored : (s.port p).SameJob { (s.port p).setInb i (.filling (bytes ++ [b])) with
          gatherTimer := some (s.port p).profile.gatherTime.toNat } :=
        (Port.sameJob_setInb _ i _).trans ⟨rfl, rfl, rfl, rfl, rfl, rfl⟩
      dsimp only
      split
      · exact (s.keepsAt_mapPort r p _ fun _ => stored).trans (State.keepsAt_handFilling _ r p)
      · exact (s.keepsAt_mapPort r p _ fun _ => stored).trans (State.keepsAt_mapPort _ r p _ fun _ => Port.sameJob_judge _)
  · exact s.keepsAt_counted r p _

theorem State.keepsAt_takeCharacter (p : PortId) (c : RxChar) : s.KeepsAt r (s.takeCharacter p c) := by
  unfold State.takeCharacter
  dsimp only
  have begun : s.KeepsAt r (s.mapPort p (fun x => { x with rxOldFormats := [] })) :=
    s.keepsAt_mapPort r p _ fun _ => ⟨rfl, rfl, rfl, rfl, rfl, rfl⟩
  split
  · exact begun.trans (State.keepsAt_mapPort _ r p _ fun _ => Port.sameJob_breakCounted _ _)
  · have counted := begun.trans (State.keepsAt_counted _ r p (PortCounters.countErrors
      (RxChar.parityError ((s.port p).rxFormat c) c) (RxChar.framingError c)))
    split
    · refine counted.trans ?_
      have flow (t : State) (f : FlowState) : t.KeepsAt r (t.mapPort p (Port.setFlow f)) :=
        t.keepsAt_mapPort r p _ fun _ => Port.sameJob_setFlow _ _
      unfold State.jobByte
      dsimp only
      split
      · split
        · exact flow _ _
        · split
          · exact flow _ _
          · split
            · exact (flow _ _).trans (State.keepsAt_dataByte _ r p _)
            · exact State.keepsAt_dataByte _ r p _
      · exact State.keepsAt_dataByte _ r p _
    · exact counted.trans (State.keepsAt_panelByte _ r p _ _)

theorem State.keepsAt_tellHolder (p : PortId) (body : NoticeBody) : s.KeepsAt r (s.tellHolder p body) := by
  unfold State.tellHolder
  split
  · exact .refl r s
  · exact s.keepsAt_enterNotice r _ _

end

end Sys2Proof.Machine
end

section
/-! PROOF. Ports, leases, credit and the pool, continued: the operations that change the state of a port or a lease, and
the two invariants kept by every step. -/

namespace Sys2Proof.Machine

/-! ## Port states and grants -/

section
variable {W : Prop} {s : State} {p : PortId}

theorem PortState.ne_idle_of_isJob {st : PortState} (job : st.isJob = true) : st ≠ .idle := by
  rintro rfl
  cases job

theorem Port.Vacant.withState {x : Port} (h : x.Vacant) (st : PortState) (select : Bool) :
    ({ x with state := st, select := select } : Port).Vacant := ⟨h.remembered, h.credit, h.occupied⟩

/-- A vacant port with a FREE lease goes to a state without a job. -/
theorem jobOk_setPortState (vacant : (s.port p).Vacant) (free : s.lease (.port p) = .free) {st : PortState}
    (noJob : st.isJob = false)
    (panel : (s.port p).profile.kind = .panel → st = .disabled ∨ st = .offline ∨ st = .idle) :
    JobOk ((s.setPortState p st).port p) ((s.setPortState p st).lease (.port p)) := by
  rw [State.port_setPortState_self, State.lease_setPortState, free]
  exact (vacant.withState st st.isJob).jobOk rfl noJob panel

theorem resourceOk_setPortState (vacant : (s.port p).Vacant) (free : s.lease (.port p) = .free) {st : PortState}
    (noJob : st.isJob = false) (notIdle : st ≠ .idle)
    (panel : (s.port p).profile.kind = .panel → st = .disabled ∨ st = .offline ∨ st = .idle) :
    (s.setPortState p st).ResourceOk W (.port p) :=
  ⟨jobOk_setPortState vacant free noJob panel,
    fun _ => State.noneWaits_of_state (by rw [State.port_setPortState_self]; exact notIdle)⟩

/-- A grant opens a vacant JOB port with credit 2 (R79, R125). -/
theorem jobOk_openPort (vacant : (s.port p).Vacant) (kind : (s.port p).profile.kind = .job) (h : Holding) :
    JobOk ((s.openPort p h).port p) ((s.openPort p h).lease (.port p)) := by
  have lease : (s.openPort p h).lease (.port p) = .held h := s.lease_grant (.port p) h
  rw [lease]
  unfold State.openPort
  dsimp only
  rw [State.port_mapPort_self, State.port_setPortState_self, State.port_setLease]
  refine JobOk.same ?_ ((Port.sameJob_startFilling _).trans (Port.sameJob_judge _))
  refine ⟨rfl, rfl, vacant.remembered, fun panel => ?_, fun _ => ?_, fun noJob => by cases noJob⟩
  · exact absurd (kind.symm.trans panel) PortKind.noConfusion
  · exact congrArg (2 + ·) vacant.occupied

/-- A grant from the queue keeps the agreement of a port that has it, and nothing is left waiting. -/
theorem resourceOk_grantHead (ok : JobOk (s.port p) (s.lease (.port p))) :
    (s.grantHead (.port p)).ResourceOk W (.port p) := by
  refine ⟨?_, fun _ => s.noneWaits_grantHead _⟩
  unfold State.grantHead
  split
  · next grantable =>
    split
    · exact ok
    · next w ws _ =>
      rw [State.port_enterNotice, State.lease_enterNotice]
      simp only [State.grantable, Bool.and_eq_true, beq_iff_eq] at grantable
      obtain ⟨⟨kind, state⟩, -⟩ := grantable
      obtain ⟨vacant, -⟩ := ok.vacant (by rw [state]; rfl)
      exact jobOk_openPort (s := s.removeWait w.link (.port p)) vacant kind _
  · exact ok

theorem resourceOk_enterIdle (vacant : (s.port p).Vacant) (free : s.lease (.port p) = .free) :
    (s.enterIdle p).ResourceOk W (.port p) :=
  resourceOk_grantHead (jobOk_setPortState vacant free rfl fun _ => .inr (.inr rfl))

theorem resourceOk_enterSettling (vacant : (s.port p).Vacant) (free : s.lease (.port p) = .free)
    (kind : (s.port p).profile.kind = .job) : (s.enterSettling p).ResourceOk W (.port p) := by
  unfold State.enterSettling
  dsimp only
  have notPanel (st : PortState) : (s.port p).profile.kind = .panel →
      st = .disabled ∨ st = .offline ∨ st = .idle := fun panel =>
    absurd (kind.symm.trans panel) PortKind.noConfusion
  split
  · refine resourceOk_enterIdle ?_ ?_
    · rw [State.port_setPortState_self]
      exact vacant.withState _ _
    · rw [State.lease_setPortState, free]
  · exact (resourceOk_setPortState vacant free rfl (by decide) (notPanel _)).keeps
      (State.keepsAt_mapPort _ _ p _ fun _ => ⟨rfl, rfl, rfl, rfl, rfl, rfl⟩)

/-! ## The end of a job -/

theorem State.kind_handLast (s : State) (p : PortId) : ((s.handLast p).port p).profile.kind = (s.port p).profile.kind := by
  unfold State.handLast
  split
  · split
    · rw [State.port_mapPort_self]
      exact (Port.sameJob_setInb _ _ _).kind
    · exact ((s.keepsAt_handTo (.port p) p _ _ _).port p rfl).kind
  · rw [State.port_mapPort_self]
    exact (Port.sameJob_setInb _ _ _).kind
  · rfl

theorem Port.kind_closeJob (x : Port) : x.closeJob.profile.kind = x.profile.kind := by
  rw [x.keepsLines_closeJob.1]

theorem resourceOk_endJob (kind : (s.port p).profile.kind = .job) : (s.endJob p).ResourceOk W (.port p) := by
  rw [State.endJob_eq]
  have port : ((((s.handLast p).mapPort p Port.completeJob).setLease (.port p) .free).port p) =
      ((s.handLast p).port p).completeJob := by
    rw [State.port_setLease, State.port_mapPort_self]
  refine resourceOk_enterSettling ?_ (State.lease_setLease_self _ _ _) ?_
  · rw [port]
    exact Port.vacant_completeJob _
  · rw [port]
    exact (Port.kind_closeJob _).trans ((s.kind_handLast p).trans kind)

theorem resourceOk_completeDrain (kind : (s.port p).profile.kind = .job) :
    (s.completeDrain p).ResourceOk W (.port p) := by
  unfold State.completeDrain
  split
  · exact resourceOk_endJob kind
  · exact resourceOk_endJob (by rwa [State.port_enterNotice])

/-- A cut leaves nothing kept for the job. -/
theorem State.vacant_cut (s : State) (p : PortId) : ((s.cut p).port p).Vacant := by
  unfold State.cut
  rw [State.port_mapPort_self]
  exact (Port.vacant_closeJob _).same ⟨rfl, rfl, rfl, rfl, rfl, rfl⟩

theorem State.kind_cut (s : State) (p : PortId) : ((s.cut p).port p).profile.kind = (s.port p).profile.kind := by
  rw [(s.workedAt_cut p).worked.profile]

theorem resourceOk_afterCut (vacant : (s.port p).Vacant) (free : s.lease (.port p) = .free)
    (kind : (s.port p).profile.kind = .job) : (s.afterCut p).ResourceOk W (.port p) := by
  unfold State.afterCut
  split
  · exact resourceOk_enterSettling vacant free kind
  · exact resourceOk_setPortState vacant free rfl (by decide) fun _ => .inr (.inl rfl)

theorem resourceOk_afterRevoke (vacant : (s.port p).Vacant) (free : s.lease (.port p) = .free)
    (kind : (s.port p).profile.kind = .job) {why : RevokeReason} (notDisabled : why ≠ .cause .disabled) :
    (s.afterRevoke p why).ResourceOk W (.port p) := by
  unfold State.afterRevoke
  split
  case h_3 => exact absurd rfl notDisabled
  case h_1 | h_2 => exact resourceOk_setPortState vacant free rfl (by decide) fun _ => .inr (.inl rfl)
  all_goals exact resourceOk_afterCut vacant free kind

/-- What a revoke leaves at the port before its next state: vacant, its lease FREE, its kind as it was. -/
theorem State.vacant_noticeRevoked (s : State) (p : PortId) (h : Holding) (why : RevokeReason) :
    (((((s.cut p).setLease (.port p) .free).noticeRevoked (.port p) h why).port p).Vacant ∧
      (((s.cut p).setLease (.port p) .free).noticeRevoked (.port p) h why).lease (.port p) = .free) ∧
      ((((s.cut p).setLease (.port p) .free).noticeRevoked (.port p) h why).port p).profile.kind =
        (s.port p).profile.kind := by
  unfold State.noticeRevoked
  split
  · rw [State.port_enterNotice, State.lease_enterNotice, State.port_setLease, State.lease_setLease_self]
    exact ⟨⟨s.vacant_cut p, rfl⟩, s.kind_cut p⟩
  · rw [State.port_setLease, State.lease_setLease_self]
    exact ⟨⟨s.vacant_cut p, rfl⟩, s.kind_cut p⟩

theorem resourceOk_revokePort (ok : s.ResourceOk W (.port p)) {why : RevokeReason}
    (notDisabled : why ≠ .cause .disabled) : (s.revokePort p why).ResourceOk W (.port p) := by
  unfold State.revokePort
  split
  · exact ok
  · next h holding =>
    obtain ⟨⟨vacant, free⟩, kind⟩ := s.vacant_noticeRevoked p h why
    exact resourceOk_afterRevoke vacant free (kind.trans (ok.1.kind (ok.1.isJob holding))) notDisabled

/-- A port revoked as it is disabled is vacant, with a FREE lease (R107). -/
theorem vacant_revokeDisabled (ok : JobOk (s.port p) (s.lease (.port p))) :
    ((s.revokePort p (.cause .disabled)).port p).Vacant ∧
      (s.revokePort p (.cause .disabled)).lease (.port p) = .free := by
  unfold State.revokePort
  split
  · next noHolding =>
    refine ok.vacant ?_
    rw [ok.lease, noHolding, Option.isSome_none]
  · next h _ => exact (s.vacant_noticeRevoked p h (.cause .disabled)).1

/-! ## Lines of a port -/

theorem resourceOk_goOffline (ok : s.ResourceOk W (.port p)) (noJob : (s.port p).state.isJob = false) :
    (s.goOffline p).ResourceOk W (.port p) := by
  obtain ⟨vacant, free⟩ := ok.1.vacant noJob
  refine resourceOk_setPortState ?_ ?_ rfl (by decide) fun _ => .inr (.inl rfl)
  · rw [State.port_mapPort_self]
    exact vacant.same ⟨rfl, rfl, rfl, rfl, rfl, rfl⟩
  · rw [State.lease_mapPort, free]

theorem resourceOk_enterIdle_of_offline (ok : s.ResourceOk W (.port p)) (offline : (s.port p).state = .offline) :
    (s.enterIdle p).ResourceOk W (.port p) := by
  obtain ⟨vacant, free⟩ := ok.1.vacant (by rw [offline]; rfl)
  exact resourceOk_enterIdle vacant free

theorem resourceOk_panelFollows (ok : s.ResourceOk W (.port p)) (was : Bool) :
    (s.panelFollows p was).ResourceOk W (.port p) := by
  unfold State.panelFollows
  dsimp only
  split
  case h_1 state =>
    split
    · exact resourceOk_enterIdle_of_offline ok state
    · exact ok
  case h_2 state =>
    split
    · have kept := s.keepsAt_panelLeavesIdle (.port p) p
      obtain ⟨vacant, free⟩ := ok.1.vacant (by rw [state]; rfl)
      exact resourceOk_setPortState (vacant.same (kept.port p rfl)) (kept.lease.trans free) rfl (by decide)
        fun _ => .inr (.inl rfl)
    · exact ok
  all_goals exact ok

theorem resourceOk_readyMoves (ok : s.ResourceOk W (.port p)) (level was : Bool) :
    (s.readyMoves p level was).ResourceOk W (.port p) := by
  unfold State.readyMoves
  dsimp only
  split
  case h_1 => exact ok
  case h_2 state =>
    split
    · exact resourceOk_enterIdle_of_offline ok state
    · exact ok
  case h_3 state =>
    split
    · exact resourceOk_goOffline ok (by rw [state]; rfl)
    · exact ok
  case h_4 state =>
    split
    · exact resourceOk_goOffline ok (by rw [state]; rfl)
    · exact ok
  all_goals
    split
    · exact ok
    · exact resourceOk_revokePort ok (by decide)

theorem resourceOk_takeReady (ok : s.ResourceOk W (.port p)) : (s.takeReady p).ResourceOk W (.port p) := by
  have taken : (s.mapPort p Port.takeReady).ResourceOk W (.port p) :=
    ok.keeps (s.keepsAt_mapPort _ p _ fun _ => ⟨rfl, rfl, rfl, rfl, rfl, rfl⟩)
  unfold State.takeReady
  dsimp only
  split
  · exact taken
  · split
    · exact resourceOk_readyMoves taken _ _
    · exact resourceOk_panelFollows taken _

/-- A job that changes to another state with a job open (R111, R112). -/
theorem resourceOk_setJobState (ok : s.ResourceOk W (.port p)) (job : (s.port p).state.isJob = true) {st : PortState}
    (stays : st.isJob = true) : (s.setPortState p st).ResourceOk W (.port p) := by
  refine ⟨?_, fun _ => State.noneWaits_of_state ?_⟩
  · rw [State.port_setPortState_self, State.lease_setPortState]
    have kind := ok.1.kind job
    obtain ⟨-, lease, remembered, -, held, -⟩ := ok.1
    refine ⟨rfl, ?_, remembered, fun panel => ?_, fun _ => held job, fun noJob => ?_⟩
    · rw [← lease, job, stays]
    · exact absurd (kind.symm.trans panel) PortKind.noConfusion
    · exact absurd (stays.symm.trans noJob) Bool.noConfusion
  · rw [State.port_setPortState_self]
    exact PortState.ne_idle_of_isJob stays

/-- A port that remembers a state with a job open, or none. -/
theorem resourceOk_remember (ok : s.ResourceOk W (.port p)) (st : Option PortState) (grace : Option Nat)
    (job : ∀ x, st = some x → x.isJob = true) :
    (s.mapPort p (fun y => { y with remembered := st, graceTimer := grace })).ResourceOk W (.port p) := by
  obtain ⟨agree, waits⟩ := ok
  refine ⟨?_, fun w => (waits w).mono (.refl _) fun can => ?_⟩
  · rw [State.port_mapPort_self, State.lease_mapPort]
    exact ⟨agree.select, agree.lease, job, agree.panel, agree.held, agree.free⟩
  · simpa [State.grantable] using can

theorem resourceOk_suspend (ok : s.ResourceOk W (.port p)) (job : (s.port p).state.isJob = true) :
    (s.suspend p).ResourceOk W (.port p) := by
  unfold State.suspend
  dsimp only
  have remembered := resourceOk_remember ok (some (s.port p).state) (some ((s.port p).profile.faultGrace.toNat * 1000))
    (fun x e => by cases e; exact job)
  have suspended := resourceOk_setJobState remembered (st := .suspended) (by rw [State.port_mapPort_self]; exact job) rfl
  exact (suspended.keeps (State.keepsAt_tellHolder _ _ p _)).keeps
    (State.keepsAt_mapPort _ _ p _ fun _ => Port.sameJob_judge _)

theorem resourceOk_resume (ok : s.ResourceOk W (.port p)) (state : (s.port p).state = .suspended) :
    (s.resume p).ResourceOk W (.port p) := by
  have job : (s.port p).state.isJob = true := by rw [state]; rfl
  have stays : ((s.port p).remembered.getD .opened).isJob = true := by
    cases remembered : (s.port p).remembered with
    | none => rfl
    | some st => exact ok.1.remembered st remembered
  have forgotten := resourceOk_remember ok none none (fun x e => by cases e)
  have resumed := resourceOk_setJobState forgotten (st := (s.port p).remembered.getD .opened)
    (by rw [State.port_mapPort_self]; exact job) stays
  have told := resumed.keeps (State.keepsAt_tellHolder _ _ p .resumed)
  have kind := told.1.kind (by
    rw [((State.keepsAt_tellHolder _ (.port p) p .resumed).port p rfl).state, State.port_setPortState_self]
    exact stays)
  unfold State.resume
  dsimp only
  split
  · exact resourceOk_completeDrain kind
  · exact told.keeps (State.keepsAt_mapPort _ _ p _ fun _ => Port.sameJob_judge _)

theorem resourceOk_faultMoves (ok : s.ResourceOk W (.port p)) (level was : Bool) :
    (s.faultMoves p level was).ResourceOk W (.port p) := by
  have strikes (job : (s.port p).state.isJob = true) : (s.faultStrikes p).ResourceOk W (.port p) := by
    unfold State.faultStrikes
    split
    · exact resourceOk_revokePort ok (by decide)
    · exact resourceOk_suspend ok job
  unfold State.faultMoves
  dsimp only
  split
  case h_1 => exact ok
  case h_2 state =>
    split
    · exact resourceOk_enterIdle_of_offline ok state
    · exact ok
  case h_3 state =>
    split
    · exact resourceOk_goOffline ok (by rw [state]; rfl)
    · exact ok
  case h_4 state =>
    split
    · exact resourceOk_goOffline ok (by rw [state]; rfl)
    · exact ok
  case h_5 state =>
    split
    · exact strikes (by rw [state]; rfl)
    · exact ok
  case h_6 state =>
    split
    · exact strikes (by rw [state]; rfl)
    · exact ok
  case h_7 state =>
    split
    · exact resourceOk_resume ok state
    · exact ok

theorem resourceOk_takeFault (ok : s.ResourceOk W (.port p)) : (s.takeFault p).ResourceOk W (.port p) := by
  have taken : (s.mapPort p Port.takeFault).ResourceOk W (.port p) :=
    ok.keeps (s.keepsAt_mapPort _ p _ fun _ => ⟨rfl, rfl, rfl, rfl, rfl, rfl⟩)
  unfold State.takeFault
  dsimp only
  split
  · exact taken
  · split
    · exact resourceOk_faultMoves taken _ _
    · exact resourceOk_panelFollows taken _

/-! ## Characters sent -/

theorem resourceOk_drain (ok : s.ResourceOk W (.port p)) {b : BufId} {o : OutBuf} (occupied : (s.port p).outb b = some o) :
    (s.drain p b).ResourceOk W (.port p) := by
  have fields (x : Port) : (x.freeOut b).state = x.state ∧ (x.freeOut b).profile = x.profile := by
    cases b <;> exact ⟨rfl, rfl⟩
  have freed : (s.mapPort p (Port.freeOut b)).ResourceOk W (.port p) := by
    obtain ⟨agree, waits⟩ := ok
    refine ⟨?_, fun w => (waits w).mono (.refl _) fun can => ?_⟩
    · rw [State.port_mapPort_self, State.lease_mapPort]
      exact agree.freeOut occupied
    · obtain ⟨state, profile⟩ := fields (s.port p)
      simpa [State.grantable, state, profile] using can
  have noticed : (s.mapPort p (Port.freeOut b)).KeepsAt (.port p) ((s.mapPort p (Port.freeOut b)).noticeCredit p) := by
    unfold State.noticeCredit
    split
    · exact State.keepsAt_enterNotice _ _ _ _
    · exact .refl _ _
    · exact .refl _ _
  have told := freed.keeps noticed
  unfold State.drain
  dsimp only
  split
  · next closing =>
    simp only [Bool.and_eq_true, decide_eq_true_eq] at closing
    exact resourceOk_completeDrain (told.1.kind (by rw [closing.1]; rfl))
  · exact told.keeps (State.keepsAt_mapPort _ _ p _ fun _ => Port.sameJob_judge _)

theorem resourceOk_characterDone (ok : s.ResourceOk W (.port p)) : (s.characterDone p).ResourceOk W (.port p) := by
  have done : (s.mapPort p (fun x => { x with tx := .rest })).ResourceOk W (.port p) :=
    ok.keeps (s.keepsAt_mapPort _ p _ fun _ => ⟨rfl, rfl, rfl, rfl, rfl, rfl⟩)
  unfold State.characterDone
  dsimp only
  split
  case h_4 b _ _ =>
    split
    · exact done
    · next o occupied =>
      have still : ((s.mapPort p (fun x => { x with tx := .rest })).port p).outb b = some o := by
        rw [State.port_mapPort_self, ← occupied]
        cases b <;> rfl
      split
      · exact done.keeps (State.keepsAt_mapPort _ _ p _ fun _ => Port.sameJob_advance _ b _ o still)
      · exact resourceOk_drain done still
  all_goals exact done

/-! ## Moves of a port -/

theorem State.PortMove.resourceOk {t : State} (m : s.PortMove p t) (ok : s.ResourceOk W (.port p)) :
    t.ResourceOk W (.port p) := by
  have timer (f : Port → Port) (same : (s.port p).SameJob (f (s.port p))) :
      (s.mapPort p f).ResourceOk W (.port p) := ok.keeps (s.keepsAt_mapPort _ p f fun _ => same)
  cases m with
  | readyLine level => exact timer _ ⟨rfl, rfl, rfl, rfl, rfl, rfl⟩
  | faultLine level => exact timer _ ⟨rfl, rfl, rfl, rfl, rfl, rfl⟩
  | ready => exact resourceOk_takeReady ok
  | fault => exact resourceOk_takeFault ok
  | idle => exact resourceOk_revokePort (timer _ ⟨rfl, rfl, rfl, rfl, rfl, rfl⟩) (by decide)
  | grace => exact resourceOk_revokePort (timer _ ⟨rfl, rfl, rfl, rfl, rfl, rfl⟩) (by decide)
  | stall => exact resourceOk_revokePort (timer _ ⟨rfl, rfl, rfl, rfl, rfl, rfl⟩) (by decide)
  | turn =>
    have cleared := timer (fun x => { x with turnTimer := none }) ⟨rfl, rfl, rfl, rfl, rfl, rfl⟩
    unfold State.expireTurn
    dsimp only
    split
    · next settling =>
      have noJob : ((s.mapPort p (fun x => { x with turnTimer := none })).port p).state.isJob = false := by
        rw [State.port_mapPort_self, settling]
        rfl
      obtain ⟨vacant, free⟩ := cleared.1.vacant noJob
      exact resourceOk_enterIdle vacant free
    · exact cleared
  | gather => exact (timer _ ⟨rfl, rfl, rfl, rfl, rfl, rfl⟩).keeps (State.keepsAt_handFilling _ _ p)
  | received c => exact ok.keeps (s.keepsAt_takeCharacter _ p c)
  | sent busy =>
    exact (resourceOk_characterDone (timer (Port.readBusy busy) ⟨rfl, rfl, rfl, rfl, rfl, rfl⟩)).keeps
      (State.keepsAt_mapPort _ _ p _ fun _ => (Port.sameJob_choose _).trans (Port.sameJob_judge _))
  | busyNegated => exact timer _ (Port.sameJob_busyNegated _)

end

section
variable {W : Prop} {s t : State}

/-- Work at port p that leaves p in agreement. -/
theorem JobsOk.event (h : JobsOk W s) {p : PortId} (e : s.EventAt p t) (waits : t.waits.Sublist s.waits)
    (ok : t.ResourceOk W (.port p)) : JobsOk W t :=
  h.frame (.port p) (fun _ ne => e.keepsAt waits ne) waits ok

theorem JobsOk.worked (h : JobsOk W s) {p : PortId} (e : s.WorkedAt p t) (w : s.Work True t)
    (ok : t.ResourceOk W (.port p)) : JobsOk W t := h.event e.event w.waits_sublist ok

theorem JobsOk.revokePort (h : JobsOk W s) (p : PortId) {why : RevokeReason} (notDisabled : why ≠ .cause .disabled) :
    JobsOk W (s.revokePort p why) :=
  h.worked (s.workedAt_revokePort p why) (s.work_revokePort p why) (resourceOk_revokePort (h.resources _) notDisabled)

/-! ## Zones -/

theorem State.keepsAt_grantHead_zone (s : State) (z : ZoneId) {r : Resource} (ne : r ≠ .zone z) :
    s.KeepsAt r (s.grantHead (.zone z)) := by
  unfold State.grantHead
  split
  · split
    · exact .refl r s
    · exact ((s.keepsAt_setWaits r _ List.filter_sublist).trans (State.keepsAt_setLease _ r ne _)).trans
        (State.keepsAt_enterNotice _ r _ _)
  · exact .refl r s

theorem JobsOk.grantHeadZone (h : JobsOk W s) (z : ZoneId) : JobsOk W (s.grantHead (.zone z)) :=
  h.frame (.zone z) (fun _ ne => s.keepsAt_grantHead_zone z ne) (State.work_grantHead (hands := True) s _).waits_sublist
    (fun _ => s.noneWaits_grantHead _)

/-- A zone whose lease ends and goes to the head of its queue keeps every other resource. -/
theorem JobsOk.freeZone (h : JobsOk W s) {z : ZoneId} {u : State} (keeps : ∀ r, r ≠ .zone z → s.KeepsAt r u)
    (fewer : u.waits.Sublist s.waits) : JobsOk W (u.grantHead (.zone z)) :=
  h.frame (.zone z) (fun r ne => (keeps r ne).trans (u.keepsAt_grantHead_zone z ne))
    ((State.work_grantHead (hands := True) u _).waits_sublist.trans fewer) (fun _ => u.noneWaits_grantHead _)

theorem State.keepsAt_noticeRevoked (s : State) (r q : Resource) (h : Holding) (why : RevokeReason) :
    s.KeepsAt r (s.noticeRevoked q h why) := by
  unfold State.noticeRevoked
  split
  · exact s.keepsAt_enterNotice r _ _
  · exact .refl r s

theorem JobsOk.revokeZone (h : JobsOk W s) (z : ZoneId) (why : RevokeReason) : JobsOk W (s.revokeZone z why) := by
  unfold State.revokeZone
  split
  · exact h
  · dsimp only
    refine h.freeZone (fun r ne => ?_) ?_
    · exact ((s.keepsAt_detachZone r z _).trans (State.keepsAt_setLease _ r ne _)).trans
        (State.keepsAt_noticeRevoked _ r _ _ _)
    · exact State.Work.waits_sublist (((s.work_detachZone (hands := True) z _).trans (State.Effect.free _).work).trans
        (State.work_noticeRevoked _ _ _ _))

theorem JobsOk.revoke (h : JobsOk W s) (r : Resource) {why : RevokeReason} (notDisabled : why ≠ .cause .disabled) :
    JobsOk W (s.revoke r why) := by
  cases r with
  | port p => exact h.revokePort p notDisabled
  | zone z => exact h.revokeZone z why

theorem JobsOk.releaseZone (h : JobsOk W s) (k : LinkId) (z : ZoneId) : JobsOk W (s.releaseZone k z) :=
  h.freeZone (fun r ne => (s.keepsAt_detachZone r z _).trans (State.keepsAt_setLease _ r ne _))
    (State.Work.waits_sublist ((s.work_detachZone (hands := True) z _).trans (State.Effect.free _).work))

/-- A zone whose record is replaced grants the head of its queue when it is enabled, and drops its waiters otherwise. -/
theorem JobsOk.replaceZone (h : JobsOk W s) (z : ZoneId) (x : Zone) : JobsOk W (s.replaceZone z x) := by
  have others (r : Resource) (ne : r ≠ .zone z) : s.KeepsAt r (s.setZone z x) := by
    refine ⟨fun _ _ => .refl _, fun y e => ?_, s.lease_setZone z x r, .refl _⟩
    rw [State.zone_setZone_ne]
    rintro rfl
    exact ne e
  unfold State.replaceZone
  dsimp only
  split
  · exact h.freeZone others (.refl _)
  · next disabled =>
    refine h.frame (.zone z) (fun r ne => (others r ne).trans (State.keepsAt_dropWaits _ r _))
      (State.work_dropWaits (hands := True) _ _).waits_sublist fun _ can => ?_
    have kept := (State.keepsAt_dropWaits (s.setZone z x) (.zone z) (.zone z)).zone z rfl
    rw [State.grantable, kept, State.zone_setZone_self] at can
    simp [disabled] at can

/-! ## Teardown -/

theorem JobsOk.revokeIfHeldBy (h : JobsOk W s) (k : LinkId) (r : Resource) : JobsOk W (s.revokeIfHeldBy k r) := by
  unfold State.revokeIfHeldBy
  split
  · exact h.revoke r (by decide)
  · exact h

theorem JobsOk.revokes (k : LinkId) : ∀ (rs : List Resource) (s : State), JobsOk W s →
    JobsOk W (rs.foldl (fun t r => t.revokeIfHeldBy k r) s)
  | [], _, h => h
  | r :: rs, _, h => JobsOk.revokes k rs _ (h.revokeIfHeldBy k r)

theorem JobsOk.tearDown (h : JobsOk W s) (k : LinkId) : JobsOk W (s.tearDown k) := by
  rw [State.tearDown_eq]
  refine JobsOk.revokes k _ _ (h.keeps fun r => ?_)
  exact ((s.keepsAt_mapLink r k _).trans (State.keepsAt_returnEntries _ r _)).trans
    (State.keepsAt_setWaits _ r _ List.filter_sublist)

theorem JobsOk.mapLink (h : JobsOk W s) (k : LinkId) (f : Link → Link) : JobsOk W (s.mapLink k f) :=
  h.keeps fun r => s.keepsAt_mapLink r k f

theorem JobsOk.takePresent (h : JobsOk W s) (k : LinkId) : JobsOk W (s.takePresent k) := by
  unfold State.takePresent
  dsimp only
  split
  · exact (h.mapLink k _).tearDown k
  · split
    · exact (h.mapLink k _).mapLink k _
    · exact h.mapLink k _

theorem JobsOk.replaceLink (h : JobsOk W s) (k j : LinkId) (x : LinkProfile) : JobsOk W (s.replaceLink k j x).1 := by
  have loaded := h.mapLink j (Link.loadProfile x)
  unfold State.replaceLink
  dsimp only
  split
  · exact loaded
  split
  · exact loaded.mapLink j _
  split
  · dsimp only
    exact loaded.mapLink j _
  split
  · dsimp only
    exact loaded.tearDown j
  · exact loaded

/-! ## Requests -/

theorem JobsOk.grant (h : JobsOk W s) (r : Resource) (x : Holding) (grantable : s.grantable r = true) :
    JobsOk W (s.grant r x) := by
  cases r with
  | port p =>
    have before := (h.resources (.port p)).1
    simp only [State.grantable, Bool.and_eq_true, beq_iff_eq] at grantable
    obtain ⟨⟨kind, state⟩, -⟩ := grantable
    obtain ⟨vacant, -⟩ := before.vacant (by rw [state]; rfl)
    have waits : (s.openPort p x).waits = s.waits := by simp [State.openPort]
    exact h.event (s.workedAt_openPort p x).event (by rw [State.grant, waits]) ⟨jobOk_openPort vacant kind x,
      fun _ => State.noneWaits_of_held (s.lease_grant (.port p) x)⟩
  | zone z =>
    exact h.frame (.zone z) (fun r ne => s.keepsAt_setLease r ne _) (.refl _)
      fun _ => State.noneWaits_of_held (s.lease_setLease_self (.zone z) _)

theorem pairwise_insertWait (w : Wait) : ∀ ws : List Wait, ws.Pairwise (fun a b => a.order ≤ b.order) →
    (insertWait w ws).Pairwise (fun a b => a.order ≤ b.order)
  | [], _ => by simp [insertWait]
  | a :: as, h => by
    obtain ⟨first, rest⟩ := List.pairwise_cons.1 h
    unfold insertWait
    split
    · next lt =>
      refine List.pairwise_cons.2 ⟨fun b hb => ?_, h⟩
      rcases List.mem_cons.1 hb with rfl | hb
      · exact lt.le
      · exact lt.le.trans (first b hb)
    · next ge =>
      refine List.pairwise_cons.2 ⟨fun b hb => ?_, pairwise_insertWait w as rest⟩
      rcases (mem_insertWait b w as).1 hb with rfl | hb
      · exact Nat.not_lt.1 ge
      · exact first b hb

theorem filter_insertWait_ne (w : Wait) (q : Wait → Bool) (no : q w = false) : ∀ ws : List Wait,
    (insertWait w ws).filter q = ws.filter q
  | [] => by simp [insertWait, no]
  | a :: as => by
    unfold insertWait
    split
    · simp [no]
    · rw [List.filter_cons, List.filter_cons, filter_insertWait_ne w q no as]

/-- A wait for a resource that is not grantable keeps every other queue as it was. -/
theorem JobsOk.wait (h : JobsOk W s) (w : Wait) (notGrantable : s.grantable w.resource = false) :
    JobsOk W (s.setWaits (insertWait w s.waits)) := by
  have grantable (r : Resource) : (s.setWaits (insertWait w s.waits)).grantable r = s.grantable r := by
    cases r <;> simp [State.grantable]
  have none (r : Resource) (before : s.NoneWaits r) : (s.setWaits (insertWait w s.waits)).NoneWaits r := by
    intro can
    rw [grantable] at can
    have other : (w.resource == r) = false := by
      rw [beq_eq_false_iff_ne]
      rintro rfl
      rw [notGrantable] at can
      cases can
    exact (filter_insertWait_ne w _ other s.waits).trans (before can)
  refine ⟨fun r => ?_, fun ok => pairwise_insertWait w _ (h.order ok)⟩
  have old := h.resources r
  cases r with
  | port p => exact ⟨by simpa using old.1, fun ok => none _ (old.2 ok)⟩
  | zone z => exact fun ok => none _ (old ok)

theorem JobsOk.enable (h : JobsOk W s) {p : PortId} (disabled : (s.port p).state = .disabled) :
    JobsOk W (s.enable p) := by
  obtain ⟨vacant, free⟩ := (h.resources (.port p)).1.vacant (by rw [disabled]; rfl)
  have enabled (u : State) (e : s.WorkedAt p u) (w : s.Work True u) (same : (s.port p).SameJob (u.port p))
      (lease : u.lease (.port p) = .free) :
      JobsOk W (if (u.port p).isReady then u.enterIdle p else u.setPortState p .offline) := by
    split
    · exact h.worked (e.trans (u.workedAt_enterIdle p)) (w.trans (u.work_enterIdle p))
        (resourceOk_enterIdle (vacant.same same) lease)
    · exact h.worked (e.trans (u.workedAt_setPortState p _)) (w.trans (u.work_setPortState p _))
        (resourceOk_setPortState (vacant.same same) lease rfl (by decide) fun _ => .inr (.inl rfl))
  unfold State.enable
  cases (s.port p).profile.kind with
  | job =>
    refine enabled (s.mapPort p (fun x => { x with flow := .running })) (s.workedAt_mapPort p _ ⟨rfl, rfl, rfl⟩)
      (s.work_mapPort p _) ?_ ?_
    · rw [State.port_mapPort_self]
      exact ⟨rfl, rfl, rfl, rfl, rfl, rfl⟩
    · rw [State.lease_mapPort, free]
  | panel => exact enabled s (.refl p s) .refl (.refl _) free

theorem State.waits_dropWaits (s : State) (r : Resource) :
    (s.dropWaits r).waits = s.waits.filter (fun w => !(w.resource == r)) := by
  unfold State.dropWaits
  rw [foldl_keeps State.waits _ (fun t _ => t.waits_enterNotice _ _), State.waits_setWaits_self]

theorem JobsOk.disable (h : JobsOk W s) (p : PortId) : JobsOk W (s.disable p) := by
  have before := h.resources (.port p)
  unfold State.disable
  cases kind : (s.port p).profile.kind with
  | job =>
    dsimp only
    unfold State.disableJob
    obtain ⟨vacant, free⟩ := vacant_revokeDisabled before.1
    have dropped := (s.revokePort p (.cause .disabled)).keepsAt_dropWaits (.port p) (.port p)
    refine h.frame (.port p) (fun r ne => ?_) ?_ (resourceOk_setPortState ?_ ?_ rfl (by decide) fun _ => .inl rfl)
    · have revoked := (s.workedAt_revokePort p (.cause .disabled)).event.keepsAt
        (s.work_revokePort (hands := True) p _).waits_sublist ne
      refine ((revoked.trans (State.keepsAt_dropWaits _ r _)).trans (State.keepsAt_mapPort _ r p Port.stop fun e =>
        absurd e ne)).trans
        ((State.workedAt_setPortState _ p _).event.keepsAt ?_ ne)
      rw [State.waits_setPortState]
    · exact State.Work.waits_sublist ((((s.work_revokePort (hands := True) p _).trans (State.work_dropWaits _ _)).trans
        (State.work_mapPort _ p Port.stop)).trans (State.work_setPortState _ p _))
    · rw [State.port_mapPort_self]
      have stopped := vacant.same (dropped.port p rfl)
      exact ⟨fun _ e => (Option.some_ne_none _ e.symm).elim, stopped.credit, stopped.occupied⟩
    · rw [State.lease_mapPort, dropped.lease, free]
  | panel =>
    dsimp only
    have noJob : (s.port p).state.isJob = false := by
      rcases before.1.panel kind with state | state | state <;> (rw [state]; rfl)
    obtain ⟨vacant, free⟩ := before.1.vacant noJob
    unfold State.disablePanel
    split
    · have kept := s.keepsAt_panelLeavesIdle (.port p) p
      exact h.worked ((s.workedAt_panelLeavesIdle p).trans (State.workedAt_setPortState _ p _))
        ((s.work_panelLeavesIdle p).trans (State.work_setPortState _ p _))
        (resourceOk_setPortState (vacant.same (kept.port p rfl)) (kept.lease.trans free) rfl (by decide) fun _ => .inl rfl)
    · exact h.worked (s.workedAt_setPortState p _) (s.work_setPortState p _)
        (resourceOk_setPortState vacant free rfl (by decide) fun _ => .inl rfl)

/-- A disabled port may take any profile. -/
theorem JobsOk.loadPort (h : JobsOk W s) {p : PortId} (x : PortProfile) (disabled : (s.port p).state = .disabled) :
    JobsOk W (s.mapPort p (Port.load x)) := by
  obtain ⟨agree, -⟩ := h.resources (.port p)
  refine h.frame (.port p) (fun r ne => s.keepsAt_mapPort r p _ fun e => absurd e ne) (.refl _) ⟨?_, fun _ => ?_⟩
  · rw [State.port_mapPort_self, State.lease_mapPort]
    exact ⟨agree.select, agree.lease, agree.remembered, fun _ => .inl disabled, agree.held, agree.free⟩
  · refine State.noneWaits_of_state ?_
    rw [State.port_mapPort_self]
    exact fun idle => PortState.noConfusion (disabled.symm.trans idle)

theorem State.keepsAt_withReport (s : State) (r : Resource) (v : Option LinkId) :
    s.KeepsAt r { s with reportLink := v } :=
  ⟨fun _ _ => .refl _, fun _ _ => rfl, s.lease_withReport v r, .refl _⟩

theorem State.keepsAt_setReportLink (s : State) (r : Resource) (v : Option LinkId) : s.KeepsAt r (s.setReportLink v) := by
  have withdrawn : s.KeepsAt r s.withdrawPortStates := by
    unfold State.withdrawPortStates
    split
    · exact .refl r s
    · exact s.keepsAt_mapLink r _ _
  have set := withdrawn.trans (State.keepsAt_withReport _ r v)
  unfold State.setReportLink
  dsimp only
  split
  · exact set
  · exact set.trans (State.keepsAt_foldl r _ (fun t _ => t.keepsAt_enterNotice r _ _) _ _)

/-- A RELEASE cuts a suspended job, and the port goes to OFFLINE (R91). -/
theorem JobsOk.releaseSuspended (h : JobsOk W s) (p : PortId) :
    JobsOk W (((s.cut p).setLease (.port p) .free).setPortState p .offline) := by
  refine h.worked (((s.workedAt_cut p).trans (State.workedAt_setLease _ p _)).trans (State.workedAt_setPortState _ p _))
    (((s.work_cut p).trans (State.Effect.free _).work).trans (State.work_setPortState _ p _))
    (resourceOk_setPortState ?_ (State.lease_setLease_self _ _ _) rfl (by decide) fun _ => .inr (.inl rfl))
  rw [State.port_setLease]
  exact s.vacant_cut p

/-- A RELEASE with data staged closes the job: its lease is RELEASING (R89). -/
theorem JobsOk.releaseClosing (h : JobsOk W s) {p : PortId} {x : Holding} (held : s.lease (.port p) = .held x) :
    JobsOk W (((s.setLease (.port p) (.releasing x)).setPortState p .closing).mapPort p Port.judge) := by
  obtain ⟨agree, -⟩ := h.resources (.port p)
  have job : (s.port p).state.isJob = true := agree.isJob (by rw [held]; rfl)
  have kind := agree.kind job
  have closing : ((s.setLease (.port p) (.releasing x)).setPortState p .closing).ResourceOk W (.port p) := by
    refine ⟨?_, fun _ => State.noneWaits_of_state ?_⟩
    · rw [State.port_setPortState_self, State.lease_setPortState, State.lease_setLease_self, State.port_setLease]
      exact ⟨rfl, rfl, agree.remembered, fun panel => absurd (kind.symm.trans panel) PortKind.noConfusion,
        fun _ => agree.held job, fun noJob => by cases noJob⟩
    · rw [State.port_setPortState_self]
      exact PortState.noConfusion
  exact h.worked
    (((s.workedAt_setLease p _).trans (State.workedAt_setPortState _ p _)).trans
      (State.workedAt_mapPort _ p _ (Port.keepsLines_judge _)))
    (((State.Effect.closing p x held).work.trans (State.work_setPortState _ p _)).trans (State.work_mapPort _ p _))
    (closing.keeps (State.keepsAt_mapPort _ _ p _ fun _ => Port.sameJob_judge _))

theorem Port.keepsLines_stage (x : Port) (payload : List Byte) : x.KeepsLines (x.stage payload) := by
  unfold Port.stage
  exact ((x.keepsLines_setOutb _ _).trans ⟨rfl, rfl, rfl⟩).trans (Port.keepsLines_judge _)

theorem Port.stage_state (x : Port) (payload : List Byte) : (x.stage payload).state = x.state := by
  unfold Port.stage
  dsimp only
  rw [(Port.sameJob_judge _).state]
  cases x.o0.isNone <;> rfl

theorem JobsOk.serves {k : LinkId} (h : JobsOk W s) (m : s.Serves k t) : JobsOk W t := by
  cases m with
  | nothing => exact h
  | grant r tag grantable => exact h.grant r _ grantable
  | wait r tag _ notGrantable => exact h.wait _ notGrantable
  | releaseZone z => exact h.releaseZone k z
  | releaseSuspended p => exact h.releaseSuspended p
  | releaseDrained p x held =>
    obtain ⟨agree, -⟩ := h.resources (.port p)
    exact h.worked (s.workedAt_endJob p) (s.work_endJob p)
      (resourceOk_endJob (agree.kind (agree.isJob (g := x) (by rw [held]; rfl))))
  | releaseClosing p x held => exact h.releaseClosing held
  | withdraw r => exact h.keeps fun q => s.keepsAt_setWaits q _ List.filter_sublist
  | stage p payload credit =>
    obtain ⟨agree, waits⟩ := h.resources (.port p)
    have profile := ((s.port p).keepsLines_stage payload).1
    refine h.worked (s.workedAt_mapPort p _ (Port.keepsLines_stage _ _)) (s.work_mapPort p _) ⟨?_, fun w => ?_⟩
    · rw [State.port_mapPort_self, State.lease_mapPort]
      exact agree.stage payload credit
    · refine (waits w).mono (.refl _) fun can => ?_
      simpa [State.grantable, profile, Port.stage_state] using can
  | loadWindow i w =>
    exact h.keeps fun r => ⟨fun _ _ => .refl _, fun _ _ => rfl, s.lease_setWindow i w r, .refl _⟩
  | loadZone z x => exact h.replaceZone z x
  | loadPort p x disabled => exact h.loadPort x disabled
  | loadLink j x => exact h.replaceLink k j x
  | setReport v => exact h.keeps fun r => s.keepsAt_setReportLink r v
  | clearLink j => exact h.mapLink j _
  | clearPort p => exact h.keeps fun r => s.keepsAt_counted r p _
  | revoke r => exact h.revoke r (by decide)
  | enable p disabled => exact h.enable disabled
  | disable p => exact h.disable p
  | restart =>
    exact h.keeps fun r => ⟨fun _ _ => .refl _, fun _ _ => rfl, by cases r <;> rfl, .refl _⟩

theorem JobsOk.reset (atReset : t.AtReset) : JobsOk W t := by
  refine ⟨fun r => ?_, fun _ => by rw [atReset.waits]; exact List.Pairwise.nil⟩
  have noneWaits : t.NoneWaits r := fun _ => by rw [State.queueOf, atReset.waits, List.filter_nil]
  cases r with
  | port p =>
    have x := atReset.ports p
    refine ⟨?_, fun _ => noneWaits⟩
    obtain ⟨state, remembered⟩ := x.state
    obtain ⟨o0, o1, -, credit⟩ := x.outbound
    rw [atReset.leases]
    refine Port.Vacant.jobOk ⟨fun st e => ?_, credit, ?_⟩ ?_ (by rw [state]; rfl) fun _ => .inl state
    · rw [remembered] at e
      cases e
    · rw [Port.occupied, o0, o1]
      rfl
    · rw [x.outputs.1, state]
      rfl
  | zone z => exact fun _ => noneWaits

theorem JobsOk.move (h : JobsOk W s) (m : s.Move t) : JobsOk W t := by
  cases m with
  | commands | choice =>
    exact h.keeps fun r => ⟨fun _ _ => .refl _, fun _ _ => rfl, by cases r <;> rfl, .refl _⟩
  | reset t atReset => exact .reset atReset
  | tick =>
    refine h.keeps fun r => ⟨fun p _ => ?_, fun _ _ => rfl, by cases r <;> rfl, .refl _⟩
    rw [port_tick]
    exact ⟨rfl, rfl, rfl, rfl, rfl, rfl⟩
  | port p t move => exact h.event move.event move.work.waits_sublist (move.resourceOk (h.resources _))
  | present k => exact h.takePresent k
  | tearDown k => exact h.tearDown k
  | finish k =>
    unfold State.finishEntry
    split
    · exact h
    · exact (h.mapLink k _).keeps fun r => State.keepsAt_mapPort _ r _ _ fun _ => Port.sameJob_returnBuffer _ _
  | boundary k holdIn =>
    obtain ⟨control, touch, tx, rate, -, -, same⟩ := s.boundary_eq k holdIn
    rw [same]
    exact h.mapLink k fun _ => _
  | serve k x r hand room u serves => exact (h.mapLink k _).serves serves
  | answer k x r hand room u serves a => exact ((h.mapLink k _).serves serves).mapLink k _
  | byte k | presentLine k | sent k | take k | refuse k | hold k | notice k => exact h.mapLink k _

end

/-- Settles O58: what every operation leaves at its port, whatever waits. -/
theorem jobsLeasesAndCreditAgree : Obligations.JobsLeasesAndCreditAgree := by
  intro s t h stepped
  rw [← jobsOk_false_iff] at h ⊢
  exact kept_of_move (fun _ _ m i => i.move m) s t h stepped

/-- Settles O53: with the agreement of the ports, each operation that makes a resource grantable takes the head of its
queue. -/
theorem waitPoolStaysInOrder : Obligations.WaitPoolStaysInOrder := by
  intro s t h stepped
  rw [← jobsOk_true_iff] at h ⊢
  exact kept_of_move (fun _ _ m i => i.move m) s t h stepped

end Sys2Proof.Machine
end

section
/-! PROOF. What an operation does to the handed buffers and data queues (R28, R136) and to the contacts and the leases of
zones (R152): most do nothing to them, and the rest is made of a few changes that an invariant of them has to keep. -/

namespace Sys2Proof.Machine

/-! ## Ports -/

/-- The bytes of a handed buffer and the link they were handed to. -/
def InBuf.handedTo : InBuf → Option (List Byte × LinkId)
  | .handed bytes k _ => some (bytes, k)
  | .free => none
  | .filling _ => none

/-- A port whose handed buffers and contacts are those of x. -/
structure Port.Plain (x y : Port) : Prop where
  handed : ∀ b : BufId, (y.inb b).handedTo = (x.inb b).handedTo
  contacts : y.contacts = x.contacts

theorem Port.Plain.refl (x : Port) : x.Plain x := ⟨fun _ => rfl, rfl⟩

theorem Port.Plain.trans {a b c : Port} (h : a.Plain b) (g : b.Plain c) : a.Plain c :=
  ⟨fun i => (g.handed i).trans (h.handed i), g.contacts.trans h.contacts⟩

/-- A port with the same two inbound buffers and the same contacts. -/
theorem Port.plain_of_eq {x y : Port} (i0 : y.i0 = x.i0) (i1 : y.i1 = x.i1) (contacts : y.contacts = x.contacts) :
    x.Plain y := by
  refine ⟨fun b => ?_, contacts⟩
  cases b
  · exact congrArg _ i0
  · exact congrArg _ i1

@[simp] theorem Port.inb_setInb (x : Port) (b : BufId) (i : InBuf) : (x.setInb b i).inb b = i := by cases b <;> rfl

@[simp] theorem Port.inb_setInb_other (x : Port) (b : BufId) (i : InBuf) :
    (x.setInb b i).inb b.other = x.inb b.other := by cases b <;> rfl

theorem Port.inb_setInb_ne (x : Port) {b c : BufId} (ne : c ≠ b) (i : InBuf) : (x.setInb b i).inb c = x.inb c := by
  cases b <;> cases c
  case b0.b0 | b1.b1 => exact absurd rfl ne
  case b0.b1 | b1.b0 => rfl

theorem InBuf.handedTo_leaveJob (i : InBuf) : i.leaveJob.handedTo = i.handedTo := by cases i <;> rfl

/-- The filling buffer is not handed. -/
theorem Port.filling_eq {x : Port} {b : BufId} {bytes : List Byte} (h : x.filling = some (b, bytes)) :
    x.inb b = .filling bytes := by
  unfold Port.filling at h
  split at h
  · next first =>
    cases h
    exact first
  · next second _ =>
    cases h
    exact second
  · cases h

section
variable (x : Port)

theorem Port.plain_setInb {b : BufId} {i : InBuf} (same : i.handedTo = (x.inb b).handedTo) : x.Plain (x.setInb b i) := by
  refine ⟨fun c => ?_, by cases b <;> rfl⟩
  by_cases e : c = b
  · subst e
    rw [Port.inb_setInb, same]
  · rw [Port.inb_setInb_ne x e]

theorem Port.plain_setPause (want : Bool) : x.Plain (x.setPause want) := by
  unfold Port.setPause
  split
  · exact .refl x
  · split <;> exact Port.plain_of_eq rfl rfl rfl

theorem Port.plain_judge : x.Plain x.judge := (x.plain_setPause x.wantsPause).trans (Port.plain_of_eq rfl rfl rfl)

theorem InBuf.handedTo_isFree {i : InBuf} (h : i.isFree = true) : i.handedTo = none := by
  cases i with
  | free => rfl
  | filling bytes => cases h
  | handed bytes k thisJob => cases h

theorem Port.plain_startFilling : x.Plain x.startFilling := by
  unfold Port.startFilling
  split
  · exact .refl x
  split
  · next free => exact x.plain_setInb (b := .b0) (i := .filling []) (InBuf.handedTo_isFree free).symm
  split
  · next free => exact x.plain_setInb (b := .b1) (i := .filling []) (InBuf.handedTo_isFree free).symm
  · exact .refl x

theorem Port.plain_choose : x.Plain x.choose := by
  unfold Port.choose
  dsimp only
  split
  · exact Port.plain_of_eq rfl rfl rfl
  split
  · exact Port.plain_of_eq rfl rfl rfl
  split <;> exact Port.plain_of_eq rfl rfl rfl

theorem Port.plain_busyNegated : x.Plain x.busyNegated := by
  unfold Port.busyNegated
  refine .trans ?_ (Port.plain_judge _)
  split
  · exact .trans (b := x.readBusy false) (Port.plain_of_eq rfl rfl rfl) (Port.plain_choose _)
  · exact Port.plain_of_eq rfl rfl rfl

theorem Port.plain_setFlow (f : FlowState) : x.Plain (x.setFlow f) :=
  .trans (b := { x with flow := f }) (Port.plain_of_eq rfl rfl rfl) (Port.plain_judge _)

theorem Port.plain_damageReport : x.Plain x.damageReport := by
  unfold Port.damageReport
  split <;> exact Port.plain_of_eq rfl rfl rfl

theorem Port.plain_breakCounted (f : PortCounters → PortCounters) :
    x.Plain (match x.profile.kind with
      | .job => x.mapCounters f
      | .panel => if x.state = .idle then (x.mapCounters f).damageReport else x.mapCounters f) := by
  split
  · exact Port.plain_of_eq rfl rfl rfl
  split
  · exact .trans (b := x.mapCounters f) (Port.plain_of_eq rfl rfl rfl) (Port.plain_damageReport _)
  · exact Port.plain_of_eq rfl rfl rfl

theorem Port.plain_setOutb (b : BufId) (o : Option OutBuf) : x.Plain (x.setOutb b o) := by
  cases b <;> exact Port.plain_of_eq rfl rfl rfl

theorem Port.plain_freeOut (b : BufId) : x.Plain (x.freeOut b) := by
  cases b <;> exact Port.plain_of_eq rfl rfl rfl

theorem Port.plain_stage (payload : List Byte) : x.Plain (x.stage payload) := by
  unfold Port.stage
  refine .trans ?_ (Port.plain_judge _)
  exact (x.plain_setOutb _ _).trans (Port.plain_of_eq rfl rfl rfl)

theorem Port.plain_closeJob : x.Plain x.closeJob := by
  unfold Port.closeJob
  refine .trans ?_ (Port.plain_setPause _ _)
  refine ⟨fun b => ?_, rfl⟩
  cases b <;> exact InBuf.handedTo_leaveJob _

end

/-! ## Operations that leave both alone -/

/-- Handed buffers and data queues are the same. -/
structure State.SameData (s t : State) : Prop where
  handed : ∀ (p : PortId) (b : BufId), ((t.port p).inb b).handedTo = ((s.port p).inb b).handedTo
  queues : ∀ k : LinkId, (t.link k).dataQ = (s.link k).dataQ

/-- Contacts, zones and their leases are the same. -/
structure State.SameContacts (s t : State) : Prop where
  contacts : ∀ p : PortId, (t.port p).contacts = (s.port p).contacts
  zones : ∀ z : ZoneId, t.zone z = s.zone z
  leases : ∀ z : ZoneId, t.lease (.zone z) = s.lease (.zone z)

/-- Between s and t neither handed buffers and data queues nor contacts and zones have changed. -/
structure State.Calm (s t : State) : Prop extends State.SameData s t, State.SameContacts s t

theorem State.SameData.refl (s : State) : s.SameData s := ⟨fun _ _ => rfl, fun _ => rfl⟩

theorem State.SameData.trans {a b c : State} (h : a.SameData b) (g : b.SameData c) : a.SameData c :=
  ⟨fun p i => (g.handed p i).trans (h.handed p i), fun k => (g.queues k).trans (h.queues k)⟩

theorem State.SameContacts.refl (s : State) : s.SameContacts s := ⟨fun _ => rfl, fun _ => rfl, fun _ => rfl⟩

theorem State.SameContacts.trans {a b c : State} (h : a.SameContacts b) (g : b.SameContacts c) : a.SameContacts c :=
  ⟨fun p => (g.contacts p).trans (h.contacts p), fun z => (g.zones z).trans (h.zones z),
    fun z => (g.leases z).trans (h.leases z)⟩

theorem State.Calm.refl (s : State) : s.Calm s := ⟨.refl s, .refl s⟩

theorem State.Calm.trans {a b c : State} (h : a.Calm b) (g : b.Calm c) : a.Calm c :=
  ⟨h.toSameData.trans g.toSameData, h.toSameContacts.trans g.toSameContacts⟩

theorem State.calm_foldl {α : Type} (f : State → α → State) (h : ∀ (t : State) (a : α), t.Calm (f t a)) :
    ∀ (as : List α) (s : State), s.Calm (as.foldl f s)
  | [], s => .refl s
  | a :: as, s => (h s a).trans (State.calm_foldl f h as (f s a))

section
variable (s : State)

theorem State.calm_mapPort (p : PortId) (f : Port → Port) (plain : (s.port p).Plain (f (s.port p))) :
    s.Calm (s.mapPort p f) := by
  have port (q : PortId) : (s.port q).Plain ((s.mapPort p f).port q) := by
    rw [State.port_mapPort]
    split
    · next same =>
      subst same
      exact plain
    · exact .refl _
  exact ⟨⟨fun q => (port q).handed, fun _ => rfl⟩, ⟨fun q => (port q).contacts, fun _ => rfl, fun z => s.lease_mapPort p f _⟩⟩

theorem State.calm_mapLink (k : LinkId) (f : Link → Link) (same : (f (s.link k)).dataQ = (s.link k).dataQ) :
    s.Calm (s.mapLink k f) := by
  refine ⟨⟨fun _ _ => rfl, fun j => ?_⟩, ⟨fun _ => rfl, fun _ => rfl, fun z => s.lease_mapLink k f _⟩⟩
  rw [State.link_mapLink]
  split
  · next e =>
    subst e
    exact same
  · rfl

theorem State.calm_setLease (p : PortId) (l : Lease) : s.Calm (s.setLease (.port p) l) :=
  ⟨⟨fun _ _ => rfl, fun _ => rfl⟩, ⟨fun _ => rfl, fun _ => rfl, fun _ => rfl⟩⟩

theorem State.calm_setWaits (ws : List Wait) : s.Calm (s.setWaits ws) :=
  ⟨⟨fun _ _ => rfl, fun _ => rfl⟩, ⟨fun _ => rfl, fun _ => rfl, fun _ => rfl⟩⟩

theorem State.calm_enterNotice (k : LinkId) (n : Notice) : s.Calm (s.enterNotice k n) := by
  unfold State.enterNotice
  split
  · exact s.calm_mapLink k _ rfl
  · exact .refl s

theorem Link.dataQ_takeReport (l : Link) (r : Report) : (l.takeReport r).dataQ = l.dataQ := by
  unfold Link.takeReport
  split
  · rfl
  · split <;> rfl

theorem State.calm_queueReport (k : LinkId) (r : Report) : s.Calm (s.queueReport k r) :=
  s.calm_mapLink k _ (Link.dataQ_takeReport _ r)

theorem State.calm_setPortState (p : PortId) (st : PortState) : s.Calm (s.setPortState p st) := by
  have set := s.calm_mapPort p (fun x => { x with state := st, select := st.isJob }) (Port.plain_of_eq rfl rfl rfl)
  unfold State.setPortState
  dsimp only
  split
  · exact set
  · exact set.trans (State.calm_enterNotice _ _ _)

theorem State.calm_openPort (p : PortId) (h : Holding) : s.Calm (s.openPort p h) := by
  unfold State.openPort
  refine ((s.calm_setLease p _).trans (State.calm_setPortState _ p _)).trans (State.calm_mapPort _ p _ ?_)
  refine .trans (.trans ?_ (Port.plain_startFilling _)) (Port.plain_judge _)
  exact Port.plain_of_eq rfl rfl rfl

theorem State.calm_grantPort (p : PortId) : s.Calm (s.grantHead (.port p)) := by
  unfold State.grantHead
  split
  · split
    · exact .refl s
    · exact ((s.calm_setWaits _).trans (State.calm_openPort _ p _)).trans (State.calm_enterNotice _ _ _)
  · exact .refl s

theorem State.calm_enterIdle (p : PortId) : s.Calm (s.enterIdle p) :=
  (s.calm_setPortState p _).trans (State.calm_grantPort _ p)

theorem State.calm_enterSettling (p : PortId) : s.Calm (s.enterSettling p) := by
  unfold State.enterSettling
  dsimp only
  split
  · exact (s.calm_setPortState p _).trans (State.calm_enterIdle _ p)
  · exact (s.calm_setPortState p _).trans (State.calm_mapPort _ p _ (Port.plain_of_eq rfl rfl rfl))

theorem State.calm_noticeRevoked (r : Resource) (h : Holding) (why : RevokeReason) : s.Calm (s.noticeRevoked r h why) := by
  unfold State.noticeRevoked
  split
  · exact s.calm_enterNotice _ _
  · exact .refl s

theorem State.calm_afterRevoke (p : PortId) (why : RevokeReason) : s.Calm (s.afterRevoke p why) := by
  have cut : s.Calm (s.afterCut p) := by
    unfold State.afterCut
    split
    · exact s.calm_enterSettling p
    · exact s.calm_setPortState p _
  unfold State.afterRevoke
  split
  case h_3 => exact .refl s
  case h_1 | h_2 => exact s.calm_setPortState p _
  all_goals exact cut

theorem State.calm_dropWaits (r : Resource) : s.Calm (s.dropWaits r) :=
  (s.calm_setWaits _).trans (State.calm_foldl _ (fun t _ => t.calm_enterNotice _ _) _ _)

theorem State.calm_syntheticUp (p : PortId) (c : ContactId) (z : ZoneId) (k : LinkId) : s.Calm (s.syntheticUp p c z k) :=
  s.calm_queueReport _ _

theorem State.calm_stray (p : PortId) (ph : Phase) (c : ContactId) (x y : Coord) : s.Calm (s.stray p ph c x y) := by
  unfold State.stray
  split
  · exact .refl s
  · exact s.calm_queueReport _ _

theorem State.calm_forward (z : ZoneId) (p : PortId) (ph : Phase) (c : ContactId) (x y : Coord) :
    s.Calm (s.forward z p ph c x y) := by
  unfold State.forward
  split
  · exact .refl s
  · exact s.calm_queueReport _ _

theorem State.calm_tellHolder (p : PortId) (body : NoticeBody) : s.Calm (s.tellHolder p body) := by
  unfold State.tellHolder
  split
  · exact .refl s
  · exact s.calm_enterNotice _ _

theorem State.calm_goOffline (p : PortId) : s.Calm (s.goOffline p) :=
  (s.calm_mapPort p _ (Port.plain_of_eq rfl rfl rfl)).trans (State.calm_setPortState _ p _)

theorem State.calm_suspend (p : PortId) : s.Calm (s.suspend p) :=
  (((s.calm_mapPort p _ (Port.plain_of_eq rfl rfl rfl)).trans (State.calm_setPortState _ p _)).trans
    (State.calm_tellHolder _ p _)).trans (State.calm_mapPort _ p _ (Port.plain_judge _))

theorem State.calm_noticeCredit (p : PortId) : s.Calm (s.noticeCredit p) := by
  unfold State.noticeCredit
  split
  · exact s.calm_enterNotice _ _
  · exact .refl s
  · exact .refl s

theorem State.calm_setReportLink (v : Option LinkId) : s.Calm (s.setReportLink v) := by
  have withdrawn : s.Calm s.withdrawPortStates := by
    unfold State.withdrawPortStates
    split
    · exact .refl s
    · exact s.calm_mapLink _ _ rfl
  have set : s.Calm { s.withdrawPortStates with reportLink := v } :=
    withdrawn.trans ⟨⟨fun _ _ => rfl, fun _ => rfl⟩, ⟨fun _ => rfl, fun _ => rfl, fun _ => rfl⟩⟩
  unfold State.setReportLink
  dsimp only
  split
  · exact set
  · exact set.trans (State.calm_foldl _ (fun t _ => t.calm_enterNotice _ _) _ _)

theorem State.calm_enable (p : PortId) : s.Calm (s.enable p) := by
  have moved (u : State) : u.Calm (if (u.port p).isReady then u.enterIdle p else u.setPortState p .offline) := by
    split
    · exact u.calm_enterIdle p
    · exact u.calm_setPortState p _
  unfold State.enable
  cases (s.port p).profile.kind with
  | job => exact (s.calm_mapPort p _ (Port.plain_of_eq rfl rfl rfl)).trans (moved _)
  | panel => exact moved s

end

/-- A held zone found by a lookup is of the panel that reports (R150). -/
theorem State.heldZoneAt_eq_some {s : State} {p : PortId} {x y : Coord} {z : ZoneId} {k : LinkId}
    (h : s.heldZoneAt p x y = some (z, k)) :
    s.zoneAt p x y = some z ∧ ∃ g : Holding, s.lease (.zone z) = .held g ∧ g.link = k := by
  unfold State.heldZoneAt at h
  split at h
  · cases h
  · next v found =>
    split at h
    · next g held =>
      cases h
      exact ⟨found, g, held, rfl⟩
    · cases h
    · cases h

theorem State.matches_of_zoneAt {s : State} {p : PortId} {x y : Coord} {z : ZoneId} (h : s.zoneAt p x y = some z) :
    (s.zone z).matches p x y = true := List.find?_some (p := fun v => (s.zone v).matches p x y) h

theorem Zone.panel_of_matches {z : Zone} {p : PortId} {x y : Coord} (h : z.matches p x y = true) : z.panel = p := by
  simp only [Zone.matches, Bool.and_eq_true, beq_iff_eq] at h
  exact h.1.1.2

/-! ## Operations that do not, made of changes an invariant has to keep -/

/-- I speaks of handed buffers, data queues, contacts and zones alone, and each change of them that the part makes keeps
it. -/
structure DataKept (I : State → Prop) : Prop where
  calm : ∀ s t : State, s.Calm t → I s → I t
  reset : ∀ t : State, t.AtReset → I t
  hand : ∀ (s : State) (p : PortId) (b : BufId) (bytes : List Byte) (k : LinkId),
    (s.port p).filling = some (b, bytes) → bytes ≠ [] → I s → I (s.handTo p b bytes k)
  cutBuffer : ∀ (s : State) (p : PortId) (b : BufId), I s → I (s.cutInbound p b)
  finish : ∀ (s : State) (k : LinkId), I s → I (s.finishEntry k)
  strip : ∀ (s : State) (k : LinkId), I s → I (s.stripLink k)
  seat : ∀ (s : State) (z : ZoneId) (h : Holding), I s → I (s.setLease (.zone z) (.held h))
  free : ∀ (s : State) (z : ZoneId) (tell : Option LinkId), I s → I ((s.detachZone z tell).setLease (.zone z) .free)
  record : ∀ (s : State) (z : ZoneId) (x : Zone), s.lease (.zone z) = .free → I s → I (s.setZone z x)
  contact : ∀ (s : State) (p : PortId) (c : ContactId) (x : Contact),
    (∀ z : ZoneId, x.state = .captured z → (s.contact p c).state = .captured z ∨
      ((s.zone z).panel = p ∧ ∃ h : Holding, s.lease (.zone z) = .held h)) → I s → I (s.setContact p c x)

namespace DataKept
variable {I : State → Prop}

theorem foldl {α : Type} {f : State → α → State} (h : ∀ (t : State) (a : α), I t → I (f t a)) :
    ∀ (as : List α) (t : State), I t → I (as.foldl f t)
  | [], _, i => i
  | a :: as, t, i => foldl h as (f t a) (h t a i)

variable (K : DataKept I) {s : State}
include K

theorem mapPort (i : I s) (p : PortId) (f : Port → Port) (plain : (s.port p).Plain (f (s.port p))) :
    I (s.mapPort p f) := K.calm _ _ (s.calm_mapPort p f plain) i

theorem mapLink (i : I s) (k : LinkId) (f : Link → Link) (same : (f (s.link k)).dataQ = (s.link k).dataQ) :
    I (s.mapLink k f) := K.calm _ _ (s.calm_mapLink k f same) i

/-! ### Jobs -/

theorem handFilling (i : I s) (p : PortId) : I (s.handFilling p) := by
  unfold State.handFilling
  split
  · next b bytes k filling _ =>
    split
    · exact i
    · next some =>
      refine K.mapPort (K.hand s p b bytes k filling (by simpa using some) i) p _ ?_
      exact (Port.plain_startFilling _).trans (Port.plain_judge _)
  · exact i

theorem handLast (i : I s) (p : PortId) : I (s.handLast p) := by
  have freed {b : BufId} {bytes : List Byte} (filling : (s.port p).filling = some (b, bytes)) :
      I (s.mapPort p (fun x => x.setInb b .free)) :=
    K.mapPort i p _ ((s.port p).plain_setInb (by rw [Port.filling_eq filling]; rfl))
  unfold State.handLast
  split
  · next b bytes k filling _ =>
    split
    · exact freed filling
    · next some => exact K.hand s p b bytes k filling (by simpa using some) i
  · next filling _ => exact freed filling
  · exact i

theorem endJob (i : I s) (p : PortId) : I (s.endJob p) := by
  rw [State.endJob_eq]
  have closed := K.mapPort (K.handLast i p) p Port.completeJob
    (.trans (Port.plain_closeJob _) (Port.plain_of_eq rfl rfl rfl))
  exact K.calm _ _ ((State.calm_setLease _ p _).trans (State.calm_enterSettling _ p)) closed

theorem completeDrain (i : I s) (p : PortId) : I (s.completeDrain p) := by
  unfold State.completeDrain
  split
  · exact K.endJob i p
  · exact K.endJob (K.calm _ _ (s.calm_enterNotice _ _) i) p

theorem cut (i : I s) (p : PortId) : I (s.cut p) :=
  K.mapPort (K.cutBuffer _ p .b1 (K.cutBuffer _ p .b0 i)) p _
    (.trans (Port.plain_closeJob _) (Port.plain_of_eq rfl rfl rfl))

theorem revokePort (i : I s) (p : PortId) (why : RevokeReason) : I (s.revokePort p why) := by
  unfold State.revokePort
  split
  · exact i
  · exact K.calm _ _ (((State.calm_setLease _ p _).trans (State.calm_noticeRevoked _ _ _ why)).trans
      (State.calm_afterRevoke _ p why)) (K.cut i p)

/-! ### Zones and contacts -/

theorem grant (i : I s) (r : Resource) (h : Holding) : I (s.grant r h) := by
  cases r with
  | port p => exact K.calm _ _ (s.calm_openPort p h) i
  | zone z => exact K.seat s z h i

theorem grantHead (i : I s) (r : Resource) : I (s.grantHead r) := by
  unfold State.grantHead
  split
  · split
    · exact i
    · exact K.calm _ _ (State.calm_enterNotice _ _ _) (K.grant (K.calm _ _ (s.calm_setWaits _) i) r _)
  · exact i

theorem revokeZone (i : I s) (z : ZoneId) (why : RevokeReason) : I (s.revokeZone z why) := by
  unfold State.revokeZone
  split
  · exact i
  · exact K.grantHead (K.calm _ _ (State.calm_noticeRevoked _ _ _ why) (K.free s z _ i)) _

theorem revoke (i : I s) (r : Resource) (why : RevokeReason) : I (s.revoke r why) := by
  cases r with
  | port p => exact K.revokePort i p why
  | zone z => exact K.revokeZone i z why

theorem replaceZone (i : I s) {z : ZoneId} (x : Zone) (free : s.lease (.zone z) = .free) : I (s.replaceZone z x) := by
  have set := K.record s z x free i
  unfold State.replaceZone
  dsimp only
  split
  · exact K.grantHead set _
  · exact K.calm _ _ (State.calm_dropWaits _ _) set

theorem freeContact (i : I s) (p : PortId) (c : ContactId) : I (s.freeContact p c) := by
  unfold State.freeContact
  refine K.contact _ p c _ (fun z e => ContactState.noConfusion e) ?_
  split
  · split
    · exact i
    · exact K.calm _ _ (s.calm_syntheticUp p c _ _) i
  · exact i
  · exact i

theorem panelLeavesIdle (i : I s) (p : PortId) : I (s.panelLeavesIdle p) := by
  unfold State.panelLeavesIdle
  refine foldl (fun t c j => ?_) contactIds _ ?_
  · exact K.freeContact j p c
  · exact K.mapPort i p _ (Port.plain_of_eq rfl rfl rfl)

theorem setContactState (i : I s) (p : PortId) (c : ContactId) {st : ContactState}
    (captured : ∀ z : ZoneId, st = .captured z → (s.zone z).panel = p ∧ ∃ h : Holding, s.lease (.zone z) = .held h) :
    I (s.setContactState p c st) := K.contact s p c _ (fun z e => .inr (captured z e)) i

theorem lookUp (i : I s) (p : PortId) (ph : Phase) (c : ContactId) (x y : Coord) : I (s.lookUp p ph c x y) := by
  unfold State.lookUp
  split
  · next z k found =>
    obtain ⟨zone, g, held, -⟩ := State.heldZoneAt_eq_some found
    refine K.calm _ _ (State.calm_queueReport _ _ _) (K.setContactState i p c fun v e => ?_)
    cases e
    exact ⟨Zone.panel_of_matches (State.matches_of_zoneAt zone), g, held⟩
  · exact K.calm _ _ ((State.calm_mapPort _ p _ (Port.plain_of_eq rfl rfl rfl)).trans (State.calm_stray _ p ph c x y))
      (K.setContactState i p c fun v e => ContactState.noConfusion e)

theorem handleReport (i : I s) (p : PortId) (ph : Phase) (c : ContactId) (x y : Coord) :
    I (s.handleReport p ph c x y) := by
  unfold State.handleReport State.setLast
  refine K.contact _ p c _ (fun z e => .inl e) ?_
  cases ph with
  | down =>
    refine K.lookUp ?_ p .down c x y
    split
    · split
      · exact i
      · exact K.calm _ _ (s.calm_syntheticUp p c _ _) i
    · exact i
    · exact i
  | move =>
    simp only [State.moveReport]
    split
    · exact K.calm _ _ (s.calm_forward _ p .move c x y) i
    · exact K.calm _ _ (s.calm_stray p .move c x y) i
    · exact K.lookUp i p .move c x y
  | up =>
    simp only [State.upReport]
    split
    · exact K.setContactState (K.calm _ _ (s.calm_forward _ p .up c x y) i) p c fun v e => ContactState.noConfusion e
    · exact K.setContactState (K.calm _ _ (s.calm_stray p .up c x y) i) p c fun v e => ContactState.noConfusion e
    · exact K.mapPort i p _ (Port.plain_of_eq rfl rfl rfl)

theorem completeReport (i : I s) (p : PortId) (lead d1 d2 d3 d4 : Byte) : I (s.completeReport p lead d1 d2 d3 d4) := by
  unfold State.completeReport
  split
  · exact K.handleReport (K.mapPort i p _ (Port.plain_of_eq rfl rfl rfl)) p _ _ _ _
  · exact K.mapPort i p _ (Port.plain_of_eq rfl rfl rfl)

theorem panelByte (i : I s) (p : PortId) (b : Byte) (error : Bool) : I (s.panelByte p b error) := by
  unfold State.panelByte
  split
  · split
    · exact K.mapPort i p _ (Port.plain_damageReport _)
    · unfold State.assembleByte
      split
      · split <;> exact K.mapPort i p _ (Port.plain_of_eq rfl rfl rfl)
      · split
        · exact K.mapPort i p _ (Port.plain_of_eq rfl rfl rfl)
        · unfold State.reportByte
          split
          · exact K.completeReport (K.mapPort i p _ (Port.plain_of_eq rfl rfl rfl)) p _ _ _ _ _
          · exact K.mapPort i p _ (Port.plain_of_eq rfl rfl rfl)
  · exact i

/-! ### Events of a port -/

theorem panelFollows (i : I s) (p : PortId) (was : Bool) : I (s.panelFollows p was) := by
  unfold State.panelFollows
  dsimp only
  split
  case h_1 =>
    split
    · exact K.calm _ _ (s.calm_enterIdle p) i
    · exact i
  case h_2 =>
    split
    · exact K.calm _ _ (State.calm_setPortState _ p _) (K.panelLeavesIdle i p)
    · exact i
  all_goals exact i

theorem readyMoves (i : I s) (p : PortId) (level was : Bool) : I (s.readyMoves p level was) := by
  unfold State.readyMoves
  dsimp only
  split
  case h_1 => exact i
  case h_2 =>
    split
    · exact K.calm _ _ (s.calm_enterIdle p) i
    · exact i
  case h_3 | h_4 =>
    split
    · exact K.calm _ _ (s.calm_goOffline p) i
    · exact i
  all_goals
    split
    · exact i
    · exact K.revokePort i p _

theorem resume (i : I s) (p : PortId) : I (s.resume p) := by
  unfold State.resume
  dsimp only
  have told := K.calm _ _ (((s.calm_mapPort p (fun y => { y with remembered := none, graceTimer := none })
    (Port.plain_of_eq rfl rfl rfl)).trans (State.calm_setPortState _ p ((s.port p).remembered.getD .opened))).trans
    (State.calm_tellHolder _ p .resumed)) i
  split
  · exact K.completeDrain told p
  · exact K.mapPort told p _ (Port.plain_judge _)

theorem faultMoves (i : I s) (p : PortId) (level was : Bool) : I (s.faultMoves p level was) := by
  unfold State.faultMoves
  dsimp only
  split
  case h_1 => exact i
  case h_2 =>
    split
    · exact K.calm _ _ (s.calm_enterIdle p) i
    · exact i
  case h_3 | h_4 =>
    split
    · exact K.calm _ _ (s.calm_goOffline p) i
    · exact i
  case h_5 | h_6 =>
    split
    · unfold State.faultStrikes
      split
      · exact K.revokePort i p _
      · exact K.calm _ _ (s.calm_suspend p) i
    · exact i
  case h_7 =>
    split
    · exact K.resume i p
    · exact i

theorem dataByte (i : I s) (p : PortId) (b : Byte) : I (s.dataByte p b) := by
  unfold State.dataByte
  split
  · unfold State.storeByte
    split
    · exact K.mapPort i p _ (Port.plain_of_eq rfl rfl rfl)
    · next j bytes filling =>
      have stored : (s.port p).Plain { (s.port p).setInb j (.filling (bytes ++ [b])) with
          gatherTimer := some (s.port p).profile.gatherTime.toNat } :=
        .trans ((s.port p).plain_setInb (by rw [Port.filling_eq filling]; rfl)) (Port.plain_of_eq rfl rfl rfl)
      dsimp only
      split
      · exact K.handFilling (K.mapPort i p _ stored) p
      · exact K.mapPort (K.mapPort i p _ stored) p _ (Port.plain_judge _)
  · exact K.mapPort i p _ (Port.plain_of_eq rfl rfl rfl)

theorem jobByte (i : I s) (p : PortId) (b : Byte) (error : Bool) : I (s.jobByte p b error) := by
  unfold State.jobByte
  dsimp only
  split
  · split
    · exact K.mapPort i p _ (Port.plain_setFlow _ _)
    split
    · exact K.mapPort i p _ (Port.plain_setFlow _ _)
    split
    · exact K.dataByte (K.mapPort i p _ (Port.plain_setFlow _ _)) p b
    · exact K.dataByte i p b
  · exact K.dataByte i p b

theorem takeCharacter (i : I s) (p : PortId) (c : RxChar) : I (s.takeCharacter p c) := by
  unfold State.takeCharacter
  dsimp only
  have begun := K.mapPort i p (fun x => { x with rxOldFormats := [] }) (Port.plain_of_eq rfl rfl rfl)
  split
  · exact K.mapPort begun p _ (Port.plain_breakCounted _ _)
  · have counted := K.mapPort begun p (fun x => x.mapCounters (PortCounters.countErrors
      (RxChar.parityError ((s.port p).rxFormat c) c) (RxChar.framingError c))) (Port.plain_of_eq rfl rfl rfl)
    split
    · exact K.jobByte counted p _ _
    · exact K.panelByte counted p _ _

theorem drain (i : I s) (p : PortId) (b : BufId) : I (s.drain p b) := by
  have freed := K.calm _ _ (State.calm_noticeCredit _ p) (K.mapPort i p (Port.freeOut b) (Port.plain_freeOut _ b))
  unfold State.drain
  dsimp only
  split
  · exact K.completeDrain freed p
  · exact K.mapPort freed p _ (Port.plain_judge _)

theorem characterDone (i : I s) (p : PortId) : I (s.characterDone p) := by
  have done := K.mapPort i p (fun x => { x with tx := .rest }) (Port.plain_of_eq rfl rfl rfl)
  unfold State.characterDone
  dsimp only
  split
  case h_4 =>
    split
    · exact done
    split
    · exact K.mapPort done p _ (Port.plain_setOutb _ _ _)
    · exact K.drain done p _
  all_goals exact done

theorem portMove {p : PortId} {t : State} (i : I s) (m : s.PortMove p t) : I t := by
  have cleared (f : Port → Port) (plain : (s.port p).Plain (f (s.port p))) : I (s.mapPort p f) := K.mapPort i p f plain
  cases m with
  | readyLine level => exact cleared _ (Port.plain_of_eq rfl rfl rfl)
  | faultLine level => exact cleared _ (Port.plain_of_eq rfl rfl rfl)
  | ready =>
    have taken := cleared Port.takeReady (Port.plain_of_eq rfl rfl rfl)
    unfold State.takeReady
    dsimp only
    split
    · exact taken
    split
    · exact K.readyMoves taken p _ _
    · exact K.panelFollows taken p _
  | fault =>
    have taken := cleared Port.takeFault (Port.plain_of_eq rfl rfl rfl)
    unfold State.takeFault
    dsimp only
    split
    · exact taken
    split
    · exact K.faultMoves taken p _ _
    · exact K.panelFollows taken p _
  | idle => exact K.revokePort (cleared _ (Port.plain_of_eq rfl rfl rfl)) p _
  | grace => exact K.revokePort (cleared _ (Port.plain_of_eq rfl rfl rfl)) p _
  | stall => exact K.revokePort (cleared _ (Port.plain_of_eq rfl rfl rfl)) p _
  | turn =>
    have stopped := cleared (fun x => { x with turnTimer := none }) (Port.plain_of_eq rfl rfl rfl)
    unfold State.expireTurn
    dsimp only
    split
    · exact K.calm _ _ (State.calm_enterIdle _ p) stopped
    · exact stopped
  | gather => exact K.handFilling (cleared _ (Port.plain_of_eq rfl rfl rfl)) p
  | received c => exact K.takeCharacter i p c
  | sent busy =>
    exact K.mapPort (K.characterDone (cleared _ (Port.plain_of_eq rfl rfl rfl)) p) p _
      ((Port.plain_choose _).trans (Port.plain_judge _))
  | busyNegated => exact cleared _ (Port.plain_busyNegated _)

/-! ### Links -/

theorem tearDown (i : I s) (k : LinkId) : I (s.tearDown k) := by
  rw [State.tearDown_eq]
  refine foldl (fun t r j => ?_) _ _ (K.strip s k i)
  unfold State.revokeIfHeldBy
  split
  · exact K.revoke j r _
  · exact j

theorem takePresent (i : I s) (k : LinkId) : I (s.takePresent k) := by
  have taken := K.mapLink i k Link.takePresent rfl
  unfold State.takePresent
  dsimp only
  split
  · exact K.tearDown taken k
  split
  · exact K.mapLink taken k _ rfl
  · exact taken

theorem replaceLink (i : I s) (k j : LinkId) (x : LinkProfile) : I (s.replaceLink k j x).1 := by
  have dataQ (l : Link) : (l.loadProfile x).dataQ = l.dataQ := by
    unfold Link.loadProfile Link.newRate
    dsimp only
    split
    · rfl
    · split <;> rfl
  have enable (l : Link) : l.enable.dataQ = l.dataQ := by
    unfold Link.enable
    split
    · rfl
    · split <;> rfl
  have loaded := K.mapLink i j (Link.loadProfile x) (dataQ _)
  unfold State.replaceLink
  dsimp only
  split
  · exact loaded
  split
  · exact K.mapLink loaded j _ (enable _)
  split
  · dsimp only
    exact K.mapLink loaded j _ rfl
  split
  · dsimp only
    exact K.tearDown loaded j
  · exact loaded

/-! ### Requests and moves -/

theorem disable (i : I s) (p : PortId) : I (s.disable p) := by
  unfold State.disable
  split
  · exact K.calm _ _ (((State.calm_dropWaits _ _).trans (State.calm_mapPort _ p _ (Port.plain_of_eq rfl rfl rfl))).trans
      (State.calm_setPortState _ p _)) (K.revokePort i p _)
  · unfold State.disablePanel
    split
    · exact K.calm _ _ (State.calm_setPortState _ p _) (K.panelLeavesIdle i p)
    · exact K.calm _ _ (State.calm_setPortState _ p _) i

theorem serves {k : LinkId} {t : State} (i : I s) (m : s.Serves k t) : I t := by
  cases m with
  | nothing => exact i
  | grant r tag => exact K.grant i r _
  | wait => exact K.calm _ _ (s.calm_setWaits _) i
  | releaseZone z => exact K.grantHead (K.free s z _ i) _
  | releaseSuspended p =>
    exact K.calm _ _ ((State.calm_setLease _ p _).trans (State.calm_setPortState _ p _)) (K.cut i p)
  | releaseDrained p => exact K.endJob i p
  | releaseClosing p h =>
    exact K.calm _ _ (((s.calm_setLease p _).trans (State.calm_setPortState _ p _)).trans
      (State.calm_mapPort _ p _ (Port.plain_judge _))) i
  | withdraw r => exact K.calm _ _ (s.calm_setWaits _) i
  | stage p payload => exact K.mapPort i p _ (Port.plain_stage _ _)
  | loadWindow w x =>
    exact K.calm s _ ⟨⟨fun _ _ => rfl, fun _ => rfl⟩, ⟨fun _ => rfl, fun _ => rfl, fun _ => rfl⟩⟩ i
  | loadZone z x free => exact K.replaceZone i x free
  | loadPort p x => exact K.mapPort i p _ (Port.plain_of_eq rfl rfl rfl)
  | loadLink j x => exact K.replaceLink i k j x
  | setReport v => exact K.calm _ _ (s.calm_setReportLink v) i
  | clearLink j => exact K.mapLink i j _ rfl
  | clearPort p => exact K.mapPort i p _ (Port.plain_of_eq rfl rfl rfl)
  | revoke r => exact K.revoke i r _
  | enable p => exact K.calm _ _ (s.calm_enable p) i
  | disable p => exact K.disable i p
  | restart =>
    refine K.calm s _ ⟨⟨fun _ _ => rfl, fun j => ?_⟩, ⟨fun _ => rfl, fun _ => rfl, fun _ => rfl⟩⟩ i
    rw [State.link_beginRestart]
    rfl

theorem move {t : State} (i : I s) (m : s.Move t) : I t := by
  have prepared (k : LinkId) (r : Option Resource) : I (s.prepared k r) :=
    K.mapLink i k _ (by cases r <;> rfl)
  have judged (was : Nat) (l : Link) : (l.judgeHold was).dataQ = l.dataQ := by
    unfold Link.judgeHold
    split <;> rfl
  have placed (tag : Byte) (address : Word) (a : Answer) (l : Link) : (l.placeAnswer tag address a).dataQ = l.dataQ := by
    unfold Link.placeAnswer
    dsimp only
    split <;> rfl
  cases m with
  | commands | choice =>
    exact K.calm s _ ⟨⟨fun _ _ => rfl, fun _ => rfl⟩, ⟨fun _ => rfl, fun _ => rfl, fun _ => rfl⟩⟩ i
  | reset t atReset => exact K.reset t atReset
  | tick =>
    have port (p : PortId) : (s.port p).Plain (s.tick.port p) := by
      rw [port_tick]
      exact Port.plain_of_eq rfl rfl rfl
    exact K.calm s _ ⟨⟨fun p => (port p).handed, fun k => by rw [link_tick]; rfl⟩,
      ⟨fun p => (port p).contacts, fun _ => rfl, fun _ => rfl⟩⟩ i
  | port p t move => exact K.portMove i move
  | byte k b => exact K.mapLink i k _ ((Link.sameQueues_receiveByte b _).dataQ)
  | present k => exact K.takePresent i k
  | tearDown k => exact K.tearDown i k
  | finish k => exact K.finish s k i
  | boundary k holdIn =>
    obtain ⟨control, touch, tx, rate, -, -, same⟩ := s.boundary_eq k holdIn
    rw [same]
    exact K.mapLink i k (fun _ => _) rfl
  | take k => exact K.mapLink i k _ (judged _ _)
  | refuse k => exact K.mapLink i k _ (placed _ _ _ _)
  | presentLine k | sent k | hold k | notice k => exact K.mapLink i k _ rfl
  | serve k x r hand room u serves => exact K.serves (prepared k r) serves
  | answer k x r hand room u serves a => exact K.mapLink (K.serves (prepared k r) serves) k _ (placed _ _ _ _)

end DataKept

/-- What every change of handed buffers, data queues, contacts and zones keeps, every step keeps. -/
theorem kept_of_dataKept {I : State → Prop} (K : DataKept I) : Kept I := kept_of_move fun _ _ m i => K.move i m

end Sys2Proof.Machine
end

section
/-! PROOF. Handed buffers and data queue entries in agreement (R28, R124, R136), and captured contacts at held zones of
their panel (R152). -/

namespace Sys2Proof.Machine

/-! ## Handed buffers and data queues -/

/-- What each inbound buffer of the part holds that has been handed. -/
def State.handedAt (s : State) (p : PortId) (b : BufId) : Option (List Byte × LinkId) := ((s.port p).inb b).handedTo

/-- Handed buffers and queues of entries agree; what BufferInv says of them. -/
structure DataAgree (handed : PortId → BufId → Option (List Byte × LinkId)) (queue : LinkId → List DataEntry) : Prop where
  entry : ∀ k : LinkId, ∀ e ∈ queue k, ∃ bytes : List Byte, handed e.port e.buf = some (bytes, k) ∧ e.count = bytes.length
  handed : ∀ (p : PortId) (b : BufId) (bytes : List Byte) (k : LinkId), handed p b = some (bytes, k) →
    bytes ≠ [] ∧ ∃ e ∈ queue k, e.port = p ∧ e.buf = b
  once : ∀ k : LinkId, (queue k).Pairwise (fun d e => ¬(d.port = e.port ∧ d.buf = e.buf))

theorem InBuf.handedTo_eq_some {i : InBuf} {bytes : List Byte} {k : LinkId} :
    i.handedTo = some (bytes, k) ↔ ∃ thisJob : Bool, i = .handed bytes k thisJob := by
  cases i with
  | free | filling bs => simp [InBuf.handedTo]
  | handed bs j t => simp [InBuf.handedTo]

theorem bufferInv_iff (s : State) : BufferInv s ↔ DataAgree s.handedAt (fun k => (s.link k).dataQ) := by
  constructor
  · rintro ⟨entry, handed, once⟩
    refine ⟨fun k e he => ?_, fun p b bytes k h => ?_, once⟩
    · obtain ⟨bytes, thisJob, held, count⟩ := entry k e he
      exact ⟨bytes, InBuf.handedTo_eq_some.2 ⟨thisJob, held⟩, count⟩
    · obtain ⟨thisJob, held⟩ := InBuf.handedTo_eq_some.1 h
      exact handed p b bytes k thisJob held
  · rintro ⟨entry, handed, once⟩
    refine ⟨fun k e he => ?_, fun p b bytes k thisJob h => ?_, once⟩
    · obtain ⟨bytes, held, count⟩ := entry k e he
      obtain ⟨thisJob, held⟩ := InBuf.handedTo_eq_some.1 held
      exact ⟨bytes, thisJob, held, count⟩
    · exact handed p b bytes k (InBuf.handedTo_eq_some.2 ⟨thisJob, h⟩)

section
variable {handed handed' : PortId → BufId → Option (List Byte × LinkId)} {queue queue' : LinkId → List DataEntry}

/-- A buffer is handed with its entry at the tail of a queue (R136). -/
theorem DataAgree.hand (h : DataAgree handed queue) {p : PortId} {b : BufId} {bytes : List Byte} {k : LinkId}
    (notHanded : handed p b = none) (some : bytes ≠ [])
    (handed_eq : ∀ q c, handed' q c = if q = p ∧ c = b then Option.some (bytes, k) else handed q c)
    (queue_eq : ∀ j, queue' j = if j = k then queue j ++ [⟨p, b, bytes.length⟩] else queue j) :
    DataAgree handed' queue' := by
  have fresh (j : LinkId) (e : DataEntry) (he : e ∈ queue j) : ¬(e.port = p ∧ e.buf = b) := by
    rintro ⟨rfl, rfl⟩
    obtain ⟨_, held, -⟩ := h.entry j e he
    rw [notHanded] at held
    cases held
  have old (j : LinkId) (e : DataEntry) (he : e ∈ queue j) :
      ∃ bs, handed' e.port e.buf = Option.some (bs, j) ∧ e.count = bs.length := by
    rw [handed_eq, if_neg (fresh j e he)]
    exact h.entry j e he
  have kept (j : LinkId) (e : DataEntry) (he : e ∈ queue j) : e ∈ queue' j := by
    rw [queue_eq]
    split
    · exact List.mem_append_left _ he
    · exact he
  refine ⟨fun j e he => ?_, fun q c bs j hq => ?_, fun j => ?_⟩
  · rw [queue_eq] at he
    split at he
    · next same =>
      subst same
      rcases List.mem_append.1 he with he | he
      · exact old j e he
      · obtain rfl := List.mem_singleton.1 he
        exact ⟨bytes, by rw [handed_eq, if_pos ⟨rfl, rfl⟩], rfl⟩
    · exact old j e he
  · rw [handed_eq] at hq
    split at hq
    · next same =>
      cases hq
      refine ⟨some, ⟨p, b, bytes.length⟩, ?_, same.1.symm, same.2.symm⟩
      rw [queue_eq, if_pos rfl]
      exact List.mem_append_right _ List.mem_cons_self
    · obtain ⟨nonempty, e, he, here⟩ := h.handed q c bs j hq
      exact ⟨nonempty, e, kept j e he, here⟩
  · rw [queue_eq]
    split
    · refine List.pairwise_append.2 ⟨h.once j, List.pairwise_singleton _ _, fun d hd e he => ?_⟩
      obtain rfl := List.mem_singleton.1 he
      exact fresh j d hd
    · exact h.once j

/-- Buffers are taken back with their entries (R115, R137, R143). -/
theorem DataAgree.remove (h : DataAgree handed queue) (gone : PortId → BufId → Bool)
    (handed_eq : ∀ q c, handed' q c = if gone q c then none else handed q c)
    (queue_eq : ∀ j, queue' j = (queue j).filter (fun e => !gone e.port e.buf)) : DataAgree handed' queue' := by
  refine ⟨fun j e he => ?_, fun q c bs j hq => ?_, fun j => ?_⟩
  · rw [queue_eq, List.mem_filter] at he
    rw [handed_eq, if_neg (by simpa using he.2)]
    exact h.entry j e he.1
  · rw [handed_eq] at hq
    split at hq
    · cases hq
    · next stays =>
      obtain ⟨nonempty, e, he, rfl, rfl⟩ := h.handed q c bs j hq
      exact ⟨nonempty, e, by rw [queue_eq, List.mem_filter]; exact ⟨he, by simpa using stays⟩, rfl, rfl⟩
  · rw [queue_eq]
    exact (h.once j).filter _

end

section
variable (s : State)

theorem State.handedAt_mapLink (k : LinkId) (f : Link → Link) (p : PortId) (b : BufId) :
    (s.mapLink k f).handedAt p b = s.handedAt p b := rfl

theorem State.handedAt_mapPort (p q : PortId) (f : Port → Port) (b : BufId) :
    (s.mapPort p f).handedAt q b = if q = p then ((f (s.port p)).inb b).handedTo else s.handedAt q b := by
  unfold State.handedAt
  rw [State.port_mapPort]
  split <;> rfl

theorem State.handedAt_setInb (p q : PortId) (b c : BufId) (i : InBuf) :
    (s.mapPort p (fun x => x.setInb b i)).handedAt q c = if q = p ∧ c = b then i.handedTo else s.handedAt q c := by
  rw [State.handedAt_mapPort]
  by_cases port : q = p
  · subst port
    by_cases buf : c = b
    · subst buf
      rw [if_pos rfl, if_pos ⟨rfl, rfl⟩, Port.inb_setInb]
    · rw [if_pos rfl, if_neg (fun e => buf e.2), Port.inb_setInb_ne _ buf]
      rfl
  · rw [if_neg port, if_neg (fun e => port e.1)]

/-- A returned buffer is not handed any longer, and the other is as it was (R137). -/
theorem Port.handedTo_returnBuffer (x : Port) (b c : BufId) :
    ((x.returnBuffer b).inb c).handedTo = if c = b then none else (x.inb c).handedTo := by
  have returned : ((x.setInb b .free).Plain (x.returnBuffer b)) := by
    unfold Port.returnBuffer
    refine .trans ?_ (Port.plain_judge _)
    split
    · exact Port.plain_setInb _ (by rw [Port.inb_setInb]; rfl)
    · exact .refl _
  rw [returned.handed]
  split
  · next same =>
    subst same
    rw [Port.inb_setInb]
    rfl
  · next ne => rw [Port.inb_setInb_ne x ne]

theorem State.handedAt_returnBuffer (p q : PortId) (b c : BufId) :
    (s.mapPort p (Port.returnBuffer b)).handedAt q c = if q = p ∧ c = b then none else s.handedAt q c := by
  rw [State.handedAt_mapPort]
  split
  · next same =>
    subst same
    rw [Port.handedTo_returnBuffer]
    by_cases buf : c = b
    · rw [if_pos buf, if_pos ⟨rfl, buf⟩]
    · rw [if_neg buf, if_neg (fun e => buf e.2)]
      rfl
  · next port => rw [if_neg (fun e => port e.1)]

/-- The buffers that the entries name. -/
def namedBy (es : List DataEntry) (p : PortId) (b : BufId) : Bool := es.any (fun e => e.port == p && e.buf == b)

theorem namedBy_iff (es : List DataEntry) (p : PortId) (b : BufId) :
    namedBy es p b = true ↔ ∃ e ∈ es, e.port = p ∧ e.buf = b := by
  simp [namedBy]

theorem State.handedAt_returnEntries (q : PortId) (c : BufId) : ∀ (es : List DataEntry) (s : State),
    (s.returnEntries es).handedAt q c = if namedBy es q c then none else s.handedAt q c
  | [], _ => rfl
  | e :: es, s => by
    have rest := State.handedAt_returnEntries q c es (s.mapPort e.port (Port.returnBuffer e.buf))
    rw [State.handedAt_returnBuffer] at rest
    refine rest.trans ?_
    by_cases here : q = e.port ∧ c = e.buf
    · obtain ⟨rfl, rfl⟩ := here
      simp [namedBy]
    · have not : ¬(e.port = q ∧ e.buf = c) := fun h => here ⟨h.1.symm, h.2.symm⟩
      simp [namedBy, here, not]

theorem State.links_returnEntries (es : List DataEntry) (s : State) : (s.returnEntries es).links = s.links :=
  foldl_keeps State.links (fun t (e : DataEntry) => t.mapPort e.port (Port.returnBuffer e.buf)) (fun _ _ => rfl) es s

end

theorem DataEntry.other_iff (e : DataEntry) (p : PortId) (b : BufId) :
    (!(e.port == p && e.buf == b)) = true ↔ ¬(e.port = p ∧ e.buf = b) := by
  rw [Bool.not_eq_true', Bool.eq_false_iff, ne_eq, Bool.and_eq_true, beq_iff_eq, beq_iff_eq]

theorem bufferInv_sameData {s t : State} (same : s.SameData t) (i : BufferInv s) : BufferInv t := by
  rw [bufferInv_iff] at i ⊢
  have handed : t.handedAt = s.handedAt := funext fun p => funext fun b => same.handed p b
  have queues : (fun k => (t.link k).dataQ) = fun k => (s.link k).dataQ := funext same.queues
  rwa [handed, queues]

section
variable (s : State)

theorem State.sameData_setContact (p : PortId) (c : ContactId) (x : Contact) : s.SameData (s.setContact p c x) := by
  refine ⟨fun q b => ?_, fun _ => rfl⟩
  rw [State.setContact, State.port_mapPort]
  split
  · next same =>
    subst same
    cases b <;> rfl
  · rfl

theorem State.sameData_detach (p : PortId) (z : ZoneId) (tell : Option LinkId) (c : ContactId) :
    s.SameData (s.detach p z tell c) := by
  unfold State.detach
  dsimp only
  split
  · split
    · exact s.sameData_setContact p c _
    · exact (s.calm_syntheticUp p c z _).toSameData.trans (State.sameData_setContact _ p c _)
  · exact .refl s

theorem State.sameData_foldl {α : Type} (f : State → α → State) (h : ∀ (t : State) (a : α), t.SameData (f t a)) :
    ∀ (as : List α) (s : State), s.SameData (as.foldl f s)
  | [], s => .refl s
  | a :: as, s => (h s a).trans (State.sameData_foldl f h as (f s a))

theorem State.sameData_detachZone (z : ZoneId) (tell : Option LinkId) : s.SameData (s.detachZone z tell) :=
  State.sameData_foldl _ (fun t c => t.sameData_detach _ z tell c) contactIds s

theorem State.sameData_setLease (r : Resource) (l : Lease) : s.SameData (s.setLease r l) := by
  cases r <;> exact ⟨fun _ _ => rfl, fun _ => rfl⟩

end

theorem dataKept_bufferInv : DataKept BufferInv where
  calm _ _ calm i := bufferInv_sameData calm.toSameData i
  reset t h := by
    rw [bufferInv_iff]
    have empty (k : LinkId) : (t.link k).dataQ = [] := (h.links k).queues.2.2
    have none (p : PortId) (b : BufId) : t.handedAt p b = none := by
      obtain ⟨i0, i1, -⟩ := (h.ports p).inbound
      cases b
      · exact congrArg InBuf.handedTo i0
      · exact congrArg InBuf.handedTo i1
    refine ⟨fun k e he => ?_, fun p b bytes k h => ?_, fun k => ?_⟩
    · simp [empty] at he
    · simp [none] at h
    · simp [empty]
  hand s p b bytes k filling some i := by
    rw [bufferInv_iff] at i ⊢
    refine i.hand (p := p) (b := b) (k := k) ?_ some (fun q c => ?_) fun j => ?_
    · exact congrArg InBuf.handedTo (Port.filling_eq filling)
    · have set := (s.mapLink k (fun l => { l with dataQ := l.dataQ ++ [⟨p, b, bytes.length⟩] })).handedAt_setInb p q b c
        (.handed bytes k true)
      refine Eq.trans ?_ set
      unfold State.handTo
      rw [State.handedAt_mapPort, State.handedAt_mapPort]
      split
      · cases b <;> cases c <;> rfl
      · rfl
    · unfold State.handTo
      rw [State.link_of_mapPort, State.link_mapLink]
      split
      · next same =>
        subst same
        rfl
      · rfl
  cutBuffer s p b i := by
    unfold State.cutInbound
    split
    · exact i
    · next bytes filling =>
      exact bufferInv_sameData (s.calm_mapPort p _ ((s.port p).plain_setInb (by rw [filling]; rfl))).toSameData i
    · next bytes k thisJob handed =>
      split
      · rw [bufferInv_iff] at i ⊢
        refine i.remove (fun q c => q == p && c == b) (fun q c => ?_) fun j => ?_
        · rw [State.handedAt_setInb, State.handedAt_mapLink]
          by_cases here : q = p ∧ c = b
          · simp [here, InBuf.handedTo]
          · simp [here]
        · have others (e : DataEntry) (he : e ∈ (s.link j).dataQ) (here : e.port = p ∧ e.buf = b) : j = k := by
            obtain ⟨bs, held, -⟩ := i.entry j e he
            rw [here.1, here.2] at held
            have holder : s.handedAt p b = some (bytes, k) := congrArg InBuf.handedTo handed
            rw [holder] at held
            cases held
            rfl
          rw [State.link_of_mapPort, State.link_mapLink]
          split
          · next same =>
            subst same
            rfl
          · next other =>
            symm
            refine List.filter_eq_self.2 fun e he => ?_
            have not : ¬(e.port = p ∧ e.buf = b) := fun here => other (others e he here)
            exact (DataEntry.other_iff _ _ _).2 not
      · exact i
  finish s k i := by
    unfold State.finishEntry
    split
    · exact i
    · next e es queue =>
      rw [bufferInv_iff] at i ⊢
      refine i.remove (fun q c => q == e.port && c == e.buf) (fun q c => ?_) fun j => ?_
      · rw [State.handedAt_returnBuffer, State.handedAt_mapLink]
        simp
      · rw [State.link_of_mapPort, State.link_mapLink]
        split
        · next same =>
          subst same
          have once := i.once j
          rw [queue] at once
          have rest : es.filter (fun d => !(d.port == e.port && d.buf == e.buf)) = es := by
            refine List.filter_eq_self.2 fun d hd => ?_
            have not : ¬(d.port = e.port ∧ d.buf = e.buf) := fun ⟨port, buf⟩ =>
              (List.pairwise_cons.1 once).1 d hd ⟨port.symm, buf.symm⟩
            exact (DataEntry.other_iff _ _ _).2 not
          rw [queue, List.filter_cons, rest]
          simp
        · next other =>
          symm
          refine List.filter_eq_self.2 fun d hd => ?_
          have not : ¬(d.port = e.port ∧ d.buf = e.buf) := by
            rintro ⟨port, buf⟩
            obtain ⟨_, held, -⟩ := i.entry j d hd
            obtain ⟨_, owned, -⟩ := i.entry k e (by rw [queue]; exact List.mem_cons_self)
            rw [port, buf, owned] at held
            cases held
            exact other rfl
          exact (DataEntry.other_iff _ _ _).2 not
  strip s k i := by
    rw [bufferInv_iff] at i ⊢
    refine i.remove (namedBy (s.link k).dataQ) (fun q c => ?_) fun j => ?_
    · exact State.handedAt_returnEntries q c (s.link k).dataQ (s.mapLink k Link.tearDown)
    · have links : (s.stripLink k).links = (s.mapLink k Link.tearDown).links := State.links_returnEntries _ _
      have link : (s.stripLink k).link j = (s.mapLink k Link.tearDown).link j := by rw [State.link, links, ← State.link]
      rw [link, State.link_mapLink]
      split
      · next same =>
        subst same
        symm
        refine List.filter_eq_nil_iff.2 fun d hd => ?_
        simpa using (namedBy_iff _ _ _).2 ⟨d, hd, rfl, rfl⟩
      · next other =>
        symm
        refine List.filter_eq_self.2 fun d hd => ?_
        rw [Bool.not_eq_true', Bool.eq_false_iff, ne_eq, namedBy_iff]
        rintro ⟨e, he, port, buf⟩
        obtain ⟨_, held, -⟩ := i.entry j d hd
        obtain ⟨_, owned, -⟩ := i.entry k e he
        rw [port, buf, held] at owned
        cases owned
        exact other rfl
  seat s z h i := bufferInv_sameData (s.sameData_setLease _ _) i
  free s z tell i := bufferInv_sameData ((s.sameData_detachZone z tell).trans (State.sameData_setLease _ _ _)) i
  record s z x _ i := bufferInv_sameData (s := s) ⟨fun _ _ => rfl, fun _ => rfl⟩ i
  contact s p c x _ i := bufferInv_sameData (s.sameData_setContact p c x) i

/-- Settles O54: buffers are handed with an entry, and taken back with theirs. -/
theorem buffersAndDataQueuesAgree : Obligations.BuffersAndDataQueuesAgree := kept_of_dataKept dataKept_bufferInv

/-! ## Contacts and held zones -/

section
variable (s : State)

theorem State.contact_setContact (p q : PortId) (c d : ContactId) (x : Contact) :
    (s.setContact p c x).contact q d = if q = p ∧ d = c then x else s.contact q d := by
  unfold State.contact State.setContact
  rw [State.port_mapPort]
  by_cases port : q = p
  · subst port
    by_cases same : d = c
    · subst same
      simp
    · have ne : c.val ≠ d.val := fun e => same (Fin.ext e.symm)
      simp [same, Vector.getElem_set_ne _ _ ne]
  · simp [port]

theorem State.contact_queueReport (k : LinkId) (r : Report) (p : PortId) (c : ContactId) :
    (s.queueReport k r).contact p c = s.contact p c := rfl

/-- A contact detached from a zone whose lease ends keeps its last coordinates (R159). -/
theorem State.contact_detach (p q : PortId) (z : ZoneId) (tell : Option LinkId) (c d : ContactId) :
    (s.detach p z tell c).contact q d =
      if q = p ∧ d = c ∧ (s.contact p c).state = .captured z then { s.contact p c with state := .detached }
      else s.contact q d := by
  unfold State.detach
  dsimp only
  split
  · next captured =>
    rw [State.contact_setContact]
    cases tell <;> simp [captured, State.syntheticUp, State.contact_queueReport]
  · next not => simp [not]

theorem State.contact_detached (p q : PortId) (z : ZoneId) (tell : Option LinkId) (d : ContactId) :
    ∀ (cs : List ContactId) (s : State), (cs.foldl (fun t c => t.detach p z tell c) s).contact q d =
      if q = p ∧ d ∈ cs ∧ (s.contact p d).state = .captured z then { s.contact p d with state := .detached }
      else s.contact q d
  | [], s => by simp
  | c :: cs, s => by
    rw [List.foldl_cons, State.contact_detached p q z tell d cs, State.contact_detach, State.contact_detach]
    by_cases port : q = p
    · subst port
      by_cases same : d = c
      · subst same
        by_cases captured : (s.contact q d).state = .captured z <;> simp [captured]
      · simp [same]
    · simp [port]

/-- What the end of a zone's lease does to each contact (R159). -/
theorem State.contact_detachZone (z : ZoneId) (tell : Option LinkId) (q : PortId) (d : ContactId) :
    (s.detachZone z tell).contact q d =
      if q = (s.zone z).panel ∧ (s.contact q d).state = .captured z then { s.contact q d with state := .detached }
      else s.contact q d := by
  unfold State.detachZone
  rw [State.contact_detached]
  by_cases port : q = (s.zone z).panel
  · subst port
    simp [mem_contactIds]
  · simp [port]

end

theorem contactInv_same {s t : State} (same : s.SameContacts t) (i : ContactInv s) : ContactInv t := by
  obtain ⟨captured, zones⟩ := i
  refine ⟨fun p c z h => ?_, fun z h => ?_⟩
  · rw [State.contact, same.contacts, ← State.contact] at h
    rw [same.zones, same.leases]
    exact captured p c z h
  · rw [same.leases]
    exact zones z h

theorem State.sameContacts_mapPort (s : State) (p : PortId) (f : Port → Port)
    (same : (f (s.port p)).contacts = (s.port p).contacts) : s.SameContacts (s.mapPort p f) := by
  refine ⟨fun q => ?_, fun _ => rfl, fun _ => s.lease_mapPort p f _⟩
  rw [State.port_mapPort]
  split
  · next e =>
    subst e
    exact same
  · rfl

theorem State.sameContacts_mapLink (s : State) (k : LinkId) (f : Link → Link) : s.SameContacts (s.mapLink k f) :=
  ⟨fun _ => rfl, fun _ => rfl, fun _ => s.lease_mapLink k f _⟩

theorem Port.contacts_setInb (x : Port) (b : BufId) (i : InBuf) : (x.setInb b i).contacts = x.contacts := by
  cases b <;> rfl

theorem Port.contacts_returnBuffer (x : Port) (b : BufId) : (x.returnBuffer b).contacts = x.contacts := by
  unfold Port.returnBuffer
  refine (Port.plain_judge _).contacts.trans ?_
  split
  · exact (Port.contacts_setInb _ b _).trans (x.contacts_setInb b _)
  · exact x.contacts_setInb b _

theorem State.sameContacts_returnEntries : ∀ (es : List DataEntry) (s : State), s.SameContacts (s.returnEntries es)
  | [], s => .refl s
  | e :: es, s =>
    (s.sameContacts_mapPort e.port _ (Port.contacts_returnBuffer _ e.buf)).trans (State.sameContacts_returnEntries es _)

theorem dataKept_contactInv : DataKept ContactInv where
  calm _ _ calm i := contactInv_same calm.toSameContacts i
  reset t h := by
    refine ⟨fun p c z captured => ?_, fun z x releasing => ?_⟩
    · have free : (t.contact p c).state = .free := by rw [State.contact, (h.ports p).panel.2 c]
      rw [free] at captured
      cases captured
    · rw [h.leases] at releasing
      cases releasing
  hand s p b bytes k _ _ i := by
    refine contactInv_same ((s.sameContacts_mapLink k _).trans (State.sameContacts_mapPort _ p _ ?_)) i
    exact Port.contacts_setInb _ b _
  cutBuffer s p b i := by
    unfold State.cutInbound
    split
    · exact i
    · exact contactInv_same (s.sameContacts_mapPort p _ (Port.contacts_setInb _ b _)) i
    · split
      · exact contactInv_same ((s.sameContacts_mapLink _ _).trans
          (State.sameContacts_mapPort _ p _ (Port.contacts_setInb _ b _))) i
      · exact i
  finish s k i := by
    unfold State.finishEntry
    split
    · exact i
    · exact contactInv_same ((s.sameContacts_mapLink _ _).trans
        (State.sameContacts_mapPort _ _ _ (Port.contacts_returnBuffer _ _))) i
  strip s k i := by
    have returned := (s.sameContacts_mapLink k Link.tearDown).trans (State.sameContacts_returnEntries (s.link k).dataQ _)
    exact contactInv_same (returned.trans (State.calm_setWaits _ _).toSameContacts) i
  seat s z h i := by
    obtain ⟨captured, zones⟩ := i
    refine ⟨fun p c v held => ?_, fun v x => ?_⟩
    · obtain ⟨panel, g, lease⟩ := captured p c v held
      by_cases same : v = z
      · subst same
        exact ⟨panel, h, State.lease_setLease_self _ _ _⟩
      · exact ⟨panel, g, by rw [State.lease_setLease_ne _ _ (by simpa using same)]; exact lease⟩
    · by_cases same : v = z
      · subst same
        rw [State.lease_setLease_self]
        exact Lease.noConfusion
      · rw [State.lease_setLease_ne _ _ (by simpa using same)]
        exact zones v x
  free s z tell i := by
    obtain ⟨captured, zones⟩ := i
    have lease (v : ZoneId) : (s.detachZone z tell).lease (.zone v) = s.lease (.zone v) :=
      (s.keepsAt_detachZone (.zone v) z tell).lease
    have zone (v : ZoneId) : ((s.detachZone z tell).setLease (.zone z) .free).zone v = s.zone v := by
      rw [State.zone_setLease, State.zone, (s.worked_detachZone z tell).zones, ← State.zone]
    have contact (p : PortId) (c : ContactId) : ((s.detachZone z tell).setLease (.zone z) .free).contact p c =
        (s.detachZone z tell).contact p c := by rw [State.contact, State.port_setLease, ← State.contact]
    refine ⟨fun p c v held => ?_, fun v x => ?_⟩
    · rw [contact, State.contact_detachZone] at held
      split at held
      · cases held
      · next stays =>
        obtain ⟨panel, g, seat⟩ := captured p c v held
        have other : Resource.zone v ≠ .zone z := by
          intro same
          cases same
          exact stays ⟨panel.symm, held⟩
        rw [zone, State.lease_setLease_ne _ _ other, lease]
        exact ⟨panel, g, seat⟩
    · by_cases same : v = z
      · subst same
        rw [State.lease_setLease_self]
        exact Lease.noConfusion
      · rw [State.lease_setLease_ne _ _ (by simpa using same), lease]
        exact zones v x
  record s z x free i := by
    obtain ⟨captured, zones⟩ := i
    refine ⟨fun p c v held => ?_, fun v g => by rw [State.lease_setZone]; exact zones v g⟩
    obtain ⟨panel, g, lease⟩ := captured p c v held
    have other : v ≠ z := by
      rintro rfl
      rw [free] at lease
      cases lease
    rw [State.zone_setZone_ne _ _ other, State.lease_setZone]
    exact ⟨panel, g, lease⟩
  contact s p c x allowed i := by
    obtain ⟨captured, zones⟩ := i
    refine ⟨fun q d z held => ?_, fun z g => ?_⟩
    · have old : (s.zone z).panel = q ∧ ∃ h : Holding, s.lease (.zone z) = .held h := by
        rw [State.contact_setContact] at held
        split at held
        · next here =>
          rcases allowed z held with before | found
          · rw [here.1]
            exact captured p c z before
          · rw [here.1]
            exact found
        · exact captured q d z held
      rw [State.setContact, State.lease_mapPort]
      exact old
    · rw [State.setContact, State.lease_mapPort]
      exact zones z g

/-- Settles O55: a zone is held while a contact is captured, since the end of its lease detaches its contacts. -/
theorem capturedContactsNameHeldZones : Obligations.CapturedContactsNameHeldZones := kept_of_dataKept dataKept_contactInv

end Sys2Proof.Machine
end

section
/-! PROOF. Steps, time and reset: what a step is, what falls due, and the three ways to the reset values (R177 to R180). -/

namespace Sys2Proof.Machine

/-! ## Steps -/

/-- Settles O1: the definition of a step on a queue that is not empty. -/
theorem stepRunsFrontCommand : Obligations.StepRunsFrontCommand := fun _ _ _ => rfl

/-- Settles O2: every command of the table answers a next state. -/
theorem noStepStops : Obligations.NoStepStops := by
  intro s
  unfold step
  split
  · exact ⟨_, rfl⟩
  · next c cs _ => cases c <;> exact ⟨_, rfl⟩

theorem State.live_self (s : State) : s.live s = .next s := by
  unfold State.live
  rw [ite_self]

theorem State.live_of_eq {s t : State} (h : t = s) : s.live t = .next s := by
  rw [h, State.live_self]

/-- While the part is held in reset no command but the two of the RESET input does anything (R178). -/
theorem exec_held {s : State} {c : Instr} (held : s.inReset = true) (notPin : c ≠ .pinReset)
    (notEnd : ∀ v : Levels, c ≠ .resetEnd v) : exec c s = .next s := by
  cases c with
  | pinReset => exact absurd rfl notPin
  | resetEnd v => exact absurd rfl (notEnd v)
  | _ => exact State.live_held _ held

/-! ## The state after reset -/

theorem atReset_reset : State.reset.AtReset where
  links k := by
    rw [link_reset]
    exact atReset_resetAt (k == 0) false false false
  ports p := by
    rw [port_reset]
    exact atReset_portResetAt false false false false false
  windows i := by simp [State.reset, Window.reset]
  zones z := by simp [State.zone, State.reset, Zone.reset]
  leases r := by cases r <;> simp [State.lease, State.reset]
  waits := rfl
  report := rfl
  restart := rfl

/-- Settles O4: link by link and port by port. -/
theorem resetStateHasResetValues : Obligations.ResetStateHasResetValues := by
  refine ⟨atReset_reset, rfl, rfl, fun k => ?_, fun p => ?_⟩
  · rw [link_reset]
    exact ⟨rfl, rfl⟩
  · rw [port_reset]
    rfl

section
variable {t : State} (h : t.AtReset)
include h

theorem queueInv_of_atReset : QueueInv t := by
  refine ⟨fun k => ?_, fun k => ?_, ?_, fun k => ?_, ?_⟩
  · simp [(h.links k).queues.1]
  · simp [(h.links k).queues.2.1]
  all_goals simp [h.waits]

theorem downInv_of_atReset : DownInv t := by
  refine ⟨fun k _ => ?_, fun k r held => ?_, fun w hw => ?_⟩
  · have l := h.links k
    obtain ⟨control, touch, dataQ⟩ := l.queues
    exact ⟨l.receiver, l.ingress, control, touch, dataQ, l.hand, l.notices, l.holdOut⟩
  · simp [State.holder, h.leases r, Lease.holding] at held
  · simp [h.waits] at hw

theorem ingressInv_of_atReset : IngressInv t := by
  refine ⟨fun k => ?_, fun k a inside => ?_⟩
  · have l := h.links k
    simp [Link.occupancy, l.ingress, l.receiver, RxState.written]
  · rw [(h.links k).receiver] at inside
    cases inside

theorem managerInv_of_atReset : ManagerInv t := by
  refine ⟨0, ?_⟩
  rw [(h.links 0).profile]
  exact ⟨rfl, rfl⟩

end

/-- Settles O51: each invariant holds of every state at its reset values. -/
theorem invariantsHoldAfterReset : Obligations.InvariantsHoldAfterReset := by
  have h := atReset_reset
  have jobs : JobsOk True State.reset := .reset h
  obtain ⟨job, wait⟩ := (jobsOk_true_iff _).1 jobs
  refine ⟨queueInv_of_atReset h, managerInv_of_atReset h, fun k => ?_, job, downInv_of_atReset h,
    ingressInv_of_atReset h, wait, dataKept_bufferInv.reset _ h, dataKept_contactInv.reset _ h⟩
  rw [(h.links k).notices]
  exact List.Pairwise.nil

/-! ## Time -/

theorem Due.timer_isDue (t : Option Nat) : (t == some 0) = true ↔ t = some 0 := beq_iff_eq

/-- The command that takes a due event does what the taking of the event does. -/
theorem exec_command {s : State} {d : Due} (running : s.inReset = false) (due : d.isDue s = true) :
    exec (d.command s) s = .next (d.take s) := by
  have taken (t : State) : s.live (s.whenDue d t) = .next t := by
    rw [State.live_running _ running, State.whenDue_due _ due]
  cases d with
  | present k => exact (congrArg s.live (if_pos rfl)).trans (taken _)
  | ready p => exact (congrArg s.live (if_pos rfl)).trans (taken _)
  | fault p => exact (congrArg s.live (if_pos rfl)).trans (taken _)
  | _ => exact taken _

theorem link_tick_eq (s : State) (k : LinkId) : s.tick.link k = { s.link k with
    presentTicks := if (s.link k).presentPin = (s.link k).present then 0 else (s.link k).presentTicks + 1,
    selfDisable := match (s.link k).selfDisable with
      | none => none
      | some (.running n) => some (.running (n + 1))
      | some .superseded => some .superseded } := by
  rw [link_tick, Link.tick]
  cases (s.link k).selfDisable with
  | none => rfl
  | some d => cases d <;> rfl

/-- Settles O3: with nothing due a tick passes; an event chosen from those due is one of them. -/
theorem emptyQueueStepTicksOrTakes : Obligations.EmptyQueueStepTicksOrTakes := by
  refine ⟨fun s empty => ⟨fun held => ?_, fun running none => ?_, fun running some => ?_⟩,
    fun s d running due => exec_command running due,
    fun s k => ⟨Due.present_isDue s k, Due.selfDisable_isDue s k, Due.restart_isDue s⟩,
    fun s p => ⟨Due.ready_isDue s p, Due.fault_isDue s p, Due.timer_isDue _, Due.timer_isDue _, Due.timer_isDue _,
      Due.timer_isDue _, Due.timer_isDue _⟩,
    fun s => ⟨rfl, fun p => by rw [port_tick]; rfl, link_tick_eq s⟩⟩
  · simp [step, empty, State.idleStep, held]
  · have nothing : s.due = [] := List.eq_nil_iff_forall_not_mem.2 fun d => by simp [none]
    simp [step, empty, State.idleStep, running, nothing]
  · obtain ⟨d, due⟩ := some
    have member := (mem_due s d).2 due
    cases list : s.due with
    | nil => simp [list] at member
    | cons e es =>
      have chosenDue : (chosen s.choices e es).isDue s = true := by
        rw [← mem_due, list]
        exact mem_chosen _ _ _
      refine ⟨chosen s.choices e es, chosenDue, ?_⟩
      have same : (chosen s.choices e es).command s =
          (chosen s.choices e es).command { s with choices := s.choices + 1 } := by
        cases chosen s.choices e es <;> rfl
      have taken : step s = .next ((chosen s.choices e es).take { s with choices := s.choices + 1 }) := by
        simp [step, empty, State.idleStep, running, list]
      rw [taken, same]
      refine (exec_command (s := { s with choices := s.choices + 1 }) running ?_).symm
      rw [← chosenDue]
      cases chosen s.choices e es <;> rfl

/-! ## Resets -/

theorem port_resetEnd (s : State) (v : Levels) (p : PortId) : (s.resetEnd v).port p =
    Port.resetAt (v.ready.getD p.val false) (v.fault.getD p.val false) (s.port p).busyPin
      (v.ready.getD p.val false) (v.fault.getD p.val false) := port_resetBy s _ _ p

theorem link_resetEnd (s : State) (v : Levels) (k : LinkId) : (s.resetEnd v).link k =
    Link.resetAt (resetMgmt k) (v.present.getD k.val false) (v.present.getD k.val false) (s.link k).holdInPin :=
  link_resetBy s _ _ k

/-- A link at its reset values is UP exactly when its present state is asserted. -/
theorem Link.up_resetAt (mgmt pin present holdIn : Bool) : (Link.resetAt mgmt pin present holdIn).up = present := by
  cases present <;> rfl

/-- Settles O5: the reset values with the outputs at rest, then with the line states that RESET_END brings. -/
theorem pinResetHoldsThePart : Obligations.PinResetHoldsThePart := by
  refine ⟨⟨fun s => ⟨s.pinReset, rfl, atReset_pinReset s, rfl, fun k => ?_, fun p => ?_⟩, fun s v held _ => ?_,
    fun s v running => ?_⟩, fun s c held notPin notEnd => exec_held held notPin notEnd⟩
  · rw [link_pinReset]
    exact ⟨rfl, rfl⟩
  · rw [port_pinReset]
    exact ⟨rfl, rfl⟩
  · refine ⟨s.resetEnd v, congrArg _ (if_pos held), atReset_resetEnd s v, inReset_resetBy _ _ _, fun k => ?_, fun p => ?_⟩
    · rw [link_resetEnd]
      exact ⟨rfl, rfl, Link.up_resetAt _ _ _ _⟩
    · rw [port_resetEnd]
      exact ⟨rfl, rfl, rfl⟩
  · exact congrArg _ (if_neg (by simp [running]))

section
variable {s : State} (restart : s.restart ≠ none)
include restart

/-- While a RESTART is under way every frame in hand waits (R58). -/
theorem State.handle_restart (k : LinkId) (h : Hand) (r : Option Resource) (perform : State → Performed) :
    s.handle k h r perform = s := by
  unfold State.handle
  rw [if_neg]
  simp [restart]

theorem State.manage_restart (k : LinkId) (cmd : MgmtCmd) (perform : List Byte → State → Performed) :
    s.manage k cmd perform = s := by
  unfold State.manage
  split
  · split
    · exact State.handle_restart restart _ _ _ _
    · rfl
  · rfl

theorem exec_mgmt_restart (k : LinkId) (cmd : MgmtCmd) : exec (cmd.instr k) s = .next s := by
  cases cmd <;> exact State.live_of_eq (State.manage_restart restart k _ _)

theorem exec_frameTaken_restart (k : LinkId) : exec (.frameTaken k) s = .next s := by
  refine State.live_of_eq ?_
  split
  · rfl
  · rw [if_neg]
    simp [State.canTake, restart]

end

theorem link_restartReset (s : State) (k : LinkId) : s.restartReset.link k =
    Link.resetAt (resetMgmt k) (s.link k).presentPin (s.link k).presentPin (s.link k).holdInPin := link_resetBy s _ _ k

theorem port_restartReset (s : State) (p : PortId) : s.restartReset.port p =
    { Port.resetAt (s.port p).readyPin (s.port p).faultPin (s.port p).busyPin (s.port p).readyPin (s.port p).faultPin with
      tx := (s.port p).tx.orphan, txBits := (s.port p).txBits,
      txFormat := if (s.port p).tx = .rest then LineFormat.reset else (s.port p).txFormat } := port_resetBy s _ _ p

theorem Link.supersede_eq (l : Link) : l.supersede = { l with
    selfDisable := match l.selfDisable with
      | none => none
      | some _ => some .superseded } := by
  unfold Link.supersede
  cases l.selfDisable <;> rfl

/-- A reset looks at what its two functions look at of each link and port. -/
theorem State.resetBy_congr {s t : State} {f : LinkId → Link → Link} {g : PortId → Port → Port}
    (links : ∀ k, f k (t.link k) = f k (s.link k)) (ports : ∀ p, g p (t.port p) = g p (s.port p))
    (choices : t.choices = s.choices) (pending : t.pending = s.pending) : t.resetBy f g = s.resetBy f g := by
  simp only [State.resetBy, links, ports, choices, pending]

/-- A marked answer that is complete brings the reset (R177). -/
theorem exec_linkFrameComplete_restart {s : State} {k : LinkId} (holdIn : Bool) {n : Nat} {f : Frame} {w : List Byte}
    (running : s.inReset = false) (restart : s.restart = some n)
    (sending : (s.link k).tx = .sending f w (.control (some .restart))) :
    exec (.linkFrameComplete k holdIn) s = .next s.restartReset := by
  have ended : (s.mapLink k (fun l => { l with tx := .idleFill })).restartReset = s.restartReset := by
    refine State.resetBy_congr (fun j => ?_) (fun _ => rfl) rfl rfl
    rw [State.link_mapLink]
    split
    · next same =>
      subst same
      rfl
    · rfl
  refine (State.live_running _ running).trans (congrArg _ ?_)
  simp only [sending, State.completeFrame]
  rw [if_pos (by simp [restart]), ended]

/-- Settles O6: a RESTART stops the dispatchers until its time or its answer brings the reset. -/
theorem restartBringsReset : Obligations.RestartBringsReset := by
  refine ⟨fun s k tag address c h e handles => ?_, fun s => ⟨rfl, fun j => ?_⟩, fun s k restart => ?_, fun s none => ?_,
    fun s n restart early => ?_, fun s n running restart late => ?_, fun s k holdIn n f w running restart sending => ?_,
    fun s => ⟨atReset_restartReset s, inReset_resetBy _ _ _, fun k => ?_, fun p => ?_⟩⟩
  · subst e
    have handling := handles
    obtain ⟨running, hand, -⟩ := handles
    refine ⟨?_, rfl⟩
    refine (State.live_running _ running).trans (congrArg _ ?_)
    rw [State.manage_of_length _ hand rfl]
    exact State.handle_answered handling rfl
  · exact (s.link_beginRestart j).trans (Link.supersede_eq _)
  · have waits {t : State} (same : t = s) : s.live t = .next s := State.live_of_eq same
    refine ⟨exec_frameTaken_restart restart k, waits ?_, waits ?_, waits ?_, waits ?_, exec_mgmt_restart restart k⟩
    all_goals
      split
      · exact State.handle_restart restart _ _ _ _
      · rfl
  · refine State.live_of_eq (State.whenDue_not_due _ ?_)
    rw [Bool.eq_false_iff, ne_eq, Due.restart_isDue, none]
    simp
  · refine State.live_of_eq (State.whenDue_not_due _ ?_)
    rw [Bool.eq_false_iff, ne_eq, Due.restart_isDue, restart]
    simpa using early
  · exact exec_command (d := .restart) running ((Due.restart_isDue s).2 ⟨n, restart, late⟩)
  · exact exec_linkFrameComplete_restart holdIn running restart sending
  · rw [link_restartReset]
    exact ⟨rfl, rfl, Link.up_resetAt _ _ _ _⟩
  · rw [port_restartReset]
    exact ⟨rfl, rfl, rfl, rfl⟩

/-! ## Characters of a kiosk link -/

theorem ofBoolListLE_dataBits (b : Byte) : BitVec.ofBoolListLE (dataBits b) = b := by
  refine BitVec.eq_of_getLsbD_eq fun i h => ?_
  have small : i < 8 := h
  rw [BitVec.getLsbD_ofBoolListLE]
  have read : (dataBits b).getD i false = b.getLsbD i := by simp [dataBits, small]
  exact read

/-- Settles O7: the levels of a character written out, and the byte read back from them. -/
theorem linkCharactersCarryBytes : Obligations.LinkCharactersCarryBytes := by
  refine ⟨fun b => rfl, fun b stop => ?_, fun s k b _ => rfl, rfl, rfl, fun f source => rfl⟩
  exact congrArg (fun d => some (LinkChar.mk d stop)) (ofBoolListLE_dataBits b)

/-! ## The check word -/

theorem crcStep_toNat_small {c : Word} (small : c.toNat < 32768) : (crcStep c).toNat = 2 * c.toNat := by
  have msb : c.msb = false := by
    rw [BitVec.msb_eq_decide]
    simpa using small
  rw [crcStep, msb]
  simp [BitVec.toNat_shiftLeft]
  omega

/-- A step can be undone: its lowest bit tells the highest bit before. -/
theorem crcStep_injective : Function.Injective crcStep := by
  have low (c : Word) : (crcStep c).getLsbD 0 = c.msb := by
    unfold crcStep
    cases c.msb <;> simp
  have shifted (a b : Word) (top : a.msb = b.msb) (same : a <<< 1 = b <<< 1) : a = b := by
    rw [BitVec.msb_eq_decide, BitVec.msb_eq_decide, decide_eq_decide] at top
    rw [← BitVec.toNat_inj] at same ⊢
    simp only [BitVec.toNat_shiftLeft, Nat.shiftLeft_eq] at same
    omega
  intro a b same
  have top : a.msb = b.msb := by rw [← low a, ← low b, same]
  refine shifted a b top ?_
  unfold crcStep at same
  rw [← top] at same
  cases first : a.msb with
  | true => simpa [first] using same
  | false => simpa [first] using same

theorem crcByte_eq (c : Word) (b : Byte) : crcByte c b = crcStep^[8] (c ^^^ (b.setWidth 16 <<< 8)) := rfl

theorem crcStep_iterate_zero : crcStep^[8] 0 = 0 := by decide

theorem crcStep_iterate_injective : Function.Injective crcStep^[8] := crcStep_injective.iterate 8

/-- Eight steps shift a value of eight bits to the high byte. -/
theorem crcStep_iterate_setWidth (b : Byte) : crcStep^[8] (b.setWidth 16) = b.setWidth 16 <<< 8 := by
  have small : (b.setWidth 16 : Word).toNat = b.toNat := by
    rw [BitVec.toNat_setWidth]
    omega
  have steps (n : Nat) (few : n ≤ 8) : (crcStep^[n] (b.setWidth 16)).toNat = 2 ^ n * b.toNat := by
    induction n with
    | zero => simpa using small
    | succ n ih =>
      have before := ih (by omega)
      have below : 2 ^ n * b.toNat < 32768 := by
        calc 2 ^ n * b.toNat ≤ 2 ^ 7 * b.toNat := Nat.mul_le_mul_right _ (Nat.pow_le_pow_right (by omega) (by omega))
          _ < 32768 := by omega
      rw [Function.iterate_succ_apply', crcStep_toNat_small (by omega), before, pow_succ]
      ring
  rw [← BitVec.toNat_inj, steps 8 le_rfl, BitVec.toNat_shiftLeft, small, Nat.shiftLeft_eq]
  omega

theorem xor_eq_zero (a b : Word) : a ^^^ b = 0 ↔ a = b := by
  rw [← BitVec.xor_left_inj (x := a) b, BitVec.xor_self]
  rfl

theorem wordOf_eq_xor (hi lo : Byte) : wordOf hi lo = hi.setWidth 16 <<< 8 ^^^ lo.setWidth 16 := by
  have joined : wordOf hi lo = (hi ++ lo : BitVec (8 + 8)) := by
    rw [← BitVec.toNat_inj, wordOf, BitVec.toNat_append, ← Nat.shiftLeft_add_eq_or_of_lt lo.isLt, BitVec.toNat_ofNat,
      Nat.shiftLeft_eq]
    omega
  rw [joined]
  refine BitVec.eq_of_getLsbD_eq fun i h => ?_
  rw [BitVec.getLsbD_append, BitVec.getLsbD_xor, BitVec.getLsbD_shiftLeft, BitVec.getLsbD_setWidth, BitVec.getLsbD_setWidth]
  by_cases low : i < 8
  · simp [low, h]
  · have above : lo.getLsbD i = false := BitVec.getLsbD_of_ge lo i (by omega)
    have fits : i - 8 < 16 := by omega
    simp [low, h, above, fits]

/-- Settles O8: a step can be undone, so the register is zero for one check word only. -/
theorem checkWordIsTheCrc : Obligations.CheckWordIsTheCrc := by
  refine ⟨rfl, fun bs b => ?_, fun c => rfl, by decide +kernel, fun bs hi lo => ?_⟩
  · rw [crcOf, List.foldl_append]
    rfl
  · have split : crcOf (bs ++ [hi, lo]) = crcByte (crcByte (crcOf bs) hi) lo := by
      rw [crcOf, List.foldl_append]
      rfl
    have undo (x y : Word) : crcStep^[8] x = crcStep^[8] y ↔ x = y := crcStep_iterate_injective.eq_iff
    rw [split, crcByte_eq (crcByte _ _), ← crcStep_iterate_zero, undo, xor_eq_zero, crcByte_eq,
      ← crcStep_iterate_setWidth lo, undo, wordOf_eq_xor]
    constructor
    · intro h
      rw [← h, BitVec.xor_comm, BitVec.xor_assoc, BitVec.xor_self, BitVec.xor_zero]
    · intro h
      rw [h, BitVec.xor_comm, ← BitVec.xor_assoc, BitVec.xor_self, BitVec.zero_xor]

end Sys2Proof.Machine
end

section
/-! PROOF. Content bytes in a frame, a whole frame received, and HOLD-out (R13 to R16, R19 to R21). -/

namespace Sys2Proof.Machine

/-! ## The end of a frame -/

/-- A frame left for HUNT is a boundary at which a rate that waits takes effect (R17). -/
theorem Link.leaveFrame_hunt (l : Link) : l.leaveFrame .hunt =
    { l with rx := .hunt, rxRate := l.rxNewRate.getD l.rxRate, rxNewRate := none } := by
  cases rate : l.rxNewRate with
  | none =>
    rw [Link.leaveFrame_noRate _ rate]
    cases l
    subst rate
    rfl
  | some r =>
    rw [Link.leaveFrame_rate _ rate]
    rfl

@[simp] theorem Link.rxNewRate_judgeHold (was : Nat) (l : Link) : (l.judgeHold was).rxNewRate = l.rxNewRate := by
  unfold Link.judgeHold
  split <;> rfl

/-- A frame discarded in HUNT: stored frames stay, a rate that waits takes effect, one counter may rise. -/
theorem Link.discarded_hunt (l : Link) (f : LinkCounters → LinkCounters) :
    ((l.discardFrame .hunt).mapCounters f).rx = .hunt ∧ ((l.discardFrame .hunt).mapCounters f).ingress = l.ingress ∧
    ((l.discardFrame .hunt).mapCounters f).rxRate = l.rxNewRate.getD l.rxRate ∧
    ((l.discardFrame .hunt).mapCounters f).rxNewRate = none ∧
    ((l.discardFrame .hunt).mapCounters f).counters = f l.counters := by
  have fields : (l.discardFrame .hunt).mapCounters f =
      { (l.discardFrame .hunt) with counters := f (l.discardFrame .hunt).counters } := rfl
  rw [fields]
  dsimp only
  rw [Link.discardFrame, Link.rx_judgeHold, Link.ingress_judgeHold, Link.rxRate_judgeHold, Link.rxNewRate_judgeHold,
    Link.counters_judgeHold, Link.leaveFrame_hunt]
  exact ⟨rfl, rfl, rfl, rfl, rfl⟩

/-! ## Content bytes -/

/-- The assembly after a content byte of header or payload. -/
def Assembly.add (a : Assembly) (b : Byte) : Assembly := ⟨a.written ++ [b], a.length, crcByte a.crc b, a.checks, false⟩

/-- The link after a content byte has been written (R14, R19, R20). -/
def Link.wrote (l : Link) (ph : RxPhase) (a : Assembly) (b : Byte) : Link :=
  Link.judgeHold l.occupancy { l with rx := .frame ph (a.add b) }

section
variable {l : Link} {a : Assembly} {b : Byte}

theorem Link.writeByte_full (ph : RxPhase) (full : 2048 ≤ l.occupancy) : l.writeByte ph a b = none := if_pos full

theorem Link.writeByte_room (ph : RxPhase) (room : l.occupancy < 2048) :
    l.writeByte ph a b = some (a.add b, l.wrote ph a b) := if_neg (Nat.not_le.2 room)

@[simp] theorem Link.ingress_wrote (ph : RxPhase) : (l.wrote ph a b).ingress = l.ingress := Link.ingress_judgeHold _ _

@[simp] theorem Link.counters_wrote (ph : RxPhase) : (l.wrote ph a b).counters = l.counters :=
  Link.counters_judgeHold _ _

@[simp] theorem Link.rx_wrote (ph : RxPhase) : (l.wrote ph a b).rx = .frame ph (a.add b) := Link.rx_judgeHold _ _

@[simp] theorem Link.rxNewRate_wrote (ph : RxPhase) : (l.wrote ph a b).rxNewRate = l.rxNewRate :=
  Link.rxNewRate_judgeHold _ _

@[simp] theorem Link.rxRate_wrote (ph : RxPhase) : (l.wrote ph a b).rxRate = l.rxRate := Link.rxRate_judgeHold _ _

/-- A content byte of header or payload that finds ingress full loses its frame (R14). -/
theorem Link.contentByte_full {ph : RxPhase} (part : ph = .header ∨ ph = .body) (full : 2048 ≤ l.occupancy) :
    l.contentByte ph a b = (l.discardFrame .hunt).mapCounters (fun c => { c with overruns := bump c.overruns }) := by
  rcases part with rfl | rfl
  · simp only [Link.contentByte, Link.headerByte, Link.writeByte_full _ full]
    rfl
  · simp only [Link.contentByte, Link.bodyByte, Link.writeByte_full _ full]
    rfl

theorem Link.contentByte_header (room : l.occupancy < 2048) (short : a.written.length < 5) :
    l.contentByte .header a b = l.wrote .header a b := by
  have notYet : (a.add b).written.length < 6 := by
    rw [Assembly.add, List.length_append, List.length_singleton]
    omega
  simp only [Link.contentByte, Link.headerByte, Link.writeByte_room _ room, if_pos notYet]

section
variable {w0 w1 w2 w3 hi : Byte} (written : a.written = [w0, w1, w2, w3, hi])
include written

theorem Link.contentByte_lengthError (room : l.occupancy < 2048) (long : 1024 < (wordOf hi b).toNat) :
    l.contentByte .header a b =
      ((l.wrote .header a b).discardFrame .hunt).mapCounters (fun c => { c with lengthErrors := bump c.lengthErrors }) := by
  have complete : (a.add b).written = [w0, w1, w2, w3, hi, b] := by rw [Assembly.add, written]; rfl
  have read : headerLength (a.add b).written = (wordOf hi b).toNat := by rw [complete]; rfl
  have whole : ¬(a.add b).written.length < 6 := by simp [complete]
  simp only [Link.contentByte, Link.headerByte, Link.writeByte_room _ room, if_neg whole, read]
  exact if_pos long

theorem Link.contentByte_headerEnd (room : l.occupancy < 2048) (fits : (wordOf hi b).toNat ≤ 1024) :
    l.contentByte .header a b = { l.wrote .header a b with
      rx := .frame (if (wordOf hi b).toNat = 0 then .check else .body)
        ⟨[w0, w1, w2, w3, hi, b], (wordOf hi b).toNat, crcByte a.crc b, a.checks, false⟩ } := by
  have complete : (a.add b).written = [w0, w1, w2, w3, hi, b] := by rw [Assembly.add, written]; rfl
  have read : headerLength (a.add b).written = (wordOf hi b).toNat := by rw [complete]; rfl
  have whole : ¬(a.add b).written.length < 6 := by simp [complete]
  have notLong : ¬Config.maxPayload < (wordOf hi b).toNat := Nat.not_lt.2 fits
  rw [← complete]
  simp only [Link.contentByte, Link.headerByte, Link.writeByte_room _ room, if_neg whole, read, if_neg notLong]
  rfl

end

theorem Link.contentByte_body (room : l.occupancy < 2048) : l.contentByte .body a b = { l.wrote .body a b with
    rx := .frame (if a.written.length + 1 < 6 + a.length then .body else .check)
      ⟨a.written ++ [b], a.length, crcByte a.crc b, a.checks, false⟩ } := by
  have length : (a.add b).written.length = a.written.length + 1 := by
    rw [Assembly.add, List.length_append, List.length_singleton]
  have same : { l.wrote .body a b with rx := .frame .body (a.add b) } = l.wrote .body a b := by
    rw [← Link.rx_wrote (l := l) (a := a) (b := b) .body]
  simp only [Link.contentByte, Link.bodyByte, Link.writeByte_room _ room]
  rw [length, show (a.add b).length = a.length from rfl]
  by_cases more : a.written.length + 1 < 6 + a.length
  · rw [if_pos more, if_pos more]
    exact same.symm
  · rw [if_neg more, if_neg more]
    rfl

theorem Link.contentByte_check_first (first : a.checks = []) : l.contentByte .check a b =
    { l with rx := .frame .check ⟨a.written, a.length, crcByte a.crc b, [b], false⟩ } := by
  simp only [Link.contentByte, Link.checkByte, first, List.nil_append]
  rfl

theorem Link.contentByte_check_stored {c : Byte} (second : a.checks = [c]) (right : crcByte a.crc b = 0) :
    l.contentByte .check a b = { l with
      rx := .hunt, rxRate := l.rxNewRate.getD l.rxRate, rxNewRate := none,
      ingress := l.ingress ++ [Frame.ofContent a.written],
      counters := { l.counters with accepted := bump l.counters.accepted } } := by
  simp only [Link.contentByte, Link.checkByte, second, right, Link.leaveFrame_hunt]
  rfl

theorem Link.contentByte_check_error {c : Byte} (second : a.checks = [c]) (wrong : crcByte a.crc b ≠ 0) :
    l.contentByte .check a b =
      (l.discardFrame .hunt).mapCounters (fun n => { n with checkErrors := bump n.checkErrors }) := by
  simp only [Link.contentByte, Link.checkByte, second, if_neg wrong]
  rfl

end

/-- Settles O12: header, payload and check word, byte by byte. -/
theorem contentBytesBuildTheFrame : Obligations.ContentBytesBuildTheFrame := by
  refine ⟨fun l w a b ph part _ e => ?_, fun l a b _ => ⟨Link.contentByte_check_first,
    fun c second right => Link.contentByte_check_stored second right, fun c second wrong => ?_⟩, fun l => ?_⟩
  · have wrote : w = l.wrote ph a b := e
    rw [wrote]
    refine ⟨Link.contentByte_full part, ?_, ?_, ?_, ?_, Link.counters_wrote ph, Link.ingress_wrote ph⟩
    · rintro room rfl short
      exact Link.contentByte_header room short
    · rintro w0 w1 w2 w3 hi room rfl written long
      have discarded := Link.contentByte_lengthError written room long
      obtain ⟨rx, ingress, rate, newRate, counters⟩ := (l.wrote .header a b).discarded_hunt
        (fun c => { c with lengthErrors := bump c.lengthErrors })
      rw [discarded]
      refine ⟨rfl, rx, ?_, ?_, newRate, ?_⟩
      · rw [ingress, Link.ingress_wrote]
      · rw [rate, Link.rxNewRate_wrote, Link.rxRate_wrote]
      · rw [counters, Link.counters_wrote]
    · rintro w0 w1 w2 w3 hi room rfl written fits
      exact Link.contentByte_headerEnd written room fits
    · rintro room rfl
      exact Link.contentByte_body room
  · have discarded := Link.contentByte_check_error (l := l) second wrong
    obtain ⟨rx, ingress, rate, newRate, counters⟩ := l.discarded_hunt (fun n => { n with checkErrors := bump n.checkErrors })
    rw [discarded]
    exact ⟨rfl, rx, ingress, rate, newRate, counters⟩
  · rw [Link.occupancy]
    cases l.rx <;> rfl

/-! ## A whole frame received -/

/-- The link after the bytes have been received, one after the other. -/
def Link.receive (l : Link) (bs : List Byte) : Link := bs.foldl (fun m b => m.receiveByte b) l

theorem Link.receive_append (l : Link) (bs cs : List Byte) : l.receive (bs ++ cs) = (l.receive bs).receive cs :=
  List.foldl_append

@[simp] theorem Link.receive_nil (l : Link) : l.receive [] = l := rfl

theorem Link.receive_cons (l : Link) (b : Byte) (bs : List Byte) : l.receive (b :: bs) = (l.receiveByte b).receive bs := rfl

/-- The receiver has read the content bytes of a frame given so far, and nothing of it has been lost. -/
structure Link.Reads (l : Link) (stored : List Frame) (ph : RxPhase) (content : List Byte) (length : Nat) : Prop where
  ingress : l.ingress = stored
  rate : l.rxNewRate = none
  rx : l.rx = .frame ph ⟨content, length, crcOf content, [], false⟩

/-- A byte under transparency inside a frame is its content byte; of the escape only the mark of the assembly differs. -/
theorem Link.receive_escaped {l : Link} {ph : RxPhase} {a : Assembly} (b : Byte) (inFrame : l.rx = .frame ph a)
    (noEscape : a.escape = false) : ∃ (m : Link) (e : Bool), m.rx = .frame ph { a with escape := e } ∧
      m.ingress = l.ingress ∧ m.rxNewRate = l.rxNewRate ∧
      l.receive (escaped b) = m.contentByte ph { a with escape := e } b := by
  by_cases reserved : isReserved b = true
  · refine ⟨{ l with rx := .frame ph { a with escape := true } }, true, rfl, rfl, rfl, ?_⟩
    have first : l.receiveByte 0x9E = { l with rx := .frame ph { a with escape := true } } := by
      rw [Link.receiveByte, inFrame]
      dsimp only
      rw [Link.frameByte_escape (by rw [noEscape]; rfl)]
    have second : b ^^^ 0x20 ^^^ 0x20 = b := by simp
    have found : classify true (b ^^^ 0x20) = .content b := by
      have member : isReserved (b ^^^ 0x20 ^^^ 0x20) = true := by rw [second]; exact reserved
      rw [classify_escaped ((isReserved_xor_iff _).1 member), second]
    rw [escaped_of_reserved reserved, Link.receive_cons, Link.receive_cons, Link.receive_nil, first, Link.receiveByte]
    dsimp only
    rw [Link.frameByte_content found]
  · refine ⟨l, false, ?_, rfl, rfl, ?_⟩
    · rw [inFrame, ← noEscape]
    · have found : classify a.escape b = .content b := by
        rw [isReserved_iff] at reserved
        rw [noEscape]
        exact classify_plain (by tauto) (by tauto) (by tauto)
      have same : ({ a with escape := false } : Assembly) = a := by rw [← noEscape]
      rw [escaped_of_not_reserved reserved, Link.receive_cons, Link.receive_nil, Link.receiveByte, inFrame, same]
      dsimp only
      rw [Link.frameByte_content found]

theorem crcOf_concat (bs : List Byte) (b : Byte) : crcOf (bs ++ [b]) = crcByte (crcOf bs) b := by
  rw [crcOf, List.foldl_append]
  rfl

section
variable {l : Link} {stored : List Frame} {content : List Byte}

/-- The room of a whole frame is there for the next byte of it. -/
theorem Link.occupancy_lt {m : Link} {ph : RxPhase} {a : Assembly} (ingress : m.ingress = stored)
    (inFrame : m.rx = .frame ph a) (room : (stored.map Frame.space).sum + a.written.length < 2048) :
    m.occupancy < 2048 := by
  rw [Link.occupancy, ingress, inFrame]
  exact room

theorem Link.Reads.header (h : l.Reads stored .header content 0) (b : Byte) (short : content.length < 5)
    (room : (stored.map Frame.space).sum + content.length < 2048) :
    (l.receive (escaped b)).Reads stored .header (content ++ [b]) 0 := by
  obtain ⟨m, e, rx, ingress, rate, read⟩ := Link.receive_escaped b h.rx rfl
  rw [read, Link.contentByte_header (Link.occupancy_lt (ingress.trans h.ingress) rx room) short]
  refine ⟨by rw [Link.ingress_wrote, ingress, h.ingress], by rw [Link.rxNewRate_wrote, rate, h.rate], ?_⟩
  rw [Link.rx_wrote, crcOf_concat]
  rfl

theorem Link.Reads.headerEnd {w0 w1 w2 w3 hi : Byte} (h : l.Reads stored .header [w0, w1, w2, w3, hi] 0) (b : Byte)
    (fits : (wordOf hi b).toNat ≤ 1024) (room : (stored.map Frame.space).sum + 5 < 2048) :
    (l.receive (escaped b)).Reads stored
      (if (wordOf hi b).toNat = 0 then .check else .body) [w0, w1, w2, w3, hi, b] (wordOf hi b).toNat := by
  obtain ⟨m, e, rx, ingress, rate, read⟩ := Link.receive_escaped b h.rx rfl
  rw [read, Link.contentByte_headerEnd rfl (Link.occupancy_lt (ingress.trans h.ingress) rx room) fits]
  exact ⟨(Link.ingress_wrote _).trans (ingress.trans h.ingress), (Link.rxNewRate_wrote _).trans (rate.trans h.rate), rfl⟩

theorem Link.Reads.body {n : Nat} (h : l.Reads stored .body content n) (b : Byte)
    (room : (stored.map Frame.space).sum + content.length < 2048) :
    (l.receive (escaped b)).Reads stored
      (if content.length + 1 < 6 + n then .body else .check) (content ++ [b]) n := by
  obtain ⟨m, e, rx, ingress, rate, read⟩ := Link.receive_escaped b h.rx rfl
  rw [read, Link.contentByte_body (Link.occupancy_lt (ingress.trans h.ingress) rx room)]
  refine ⟨(Link.ingress_wrote _).trans (ingress.trans h.ingress), (Link.rxNewRate_wrote _).trans (rate.trans h.rate), ?_⟩
  rw [crcOf_concat]

/-- The payload is read to its end. -/
theorem Link.Reads.payload {n : Nat} : ∀ (bs : List Byte) {l : Link} {content : List Byte},
    l.Reads stored (if bs = [] then .check else .body) content n → content.length + bs.length = 6 + n →
    (stored.map Frame.space).sum + 6 + n ≤ 2048 →
    (l.receive (bs.flatMap escaped)).Reads stored .check (content ++ bs) n
  | [], l, content, h, _, _ => by simpa using h
  | b :: bs, l, content, h, length, room => by
    rw [List.length_cons] at length
    rw [if_neg (List.cons_ne_nil b bs)] at h
    have next := h.body b (by omega)
    have phase : (if content.length + 1 < 6 + n then RxPhase.body else .check) = if bs = [] then .check else .body := by
      cases bs with
      | nil => rw [if_pos rfl, if_neg (by simp at length; omega)]
      | cons c cs => rw [if_neg (List.cons_ne_nil c cs), if_pos (by simp at length; omega)]
    rw [phase] at next
    have rest := Link.Reads.payload bs next (by simp; omega) room
    rw [List.flatMap_cons, Link.receive_append]
    simpa using rest

end

theorem wordOf_hiByte_loByte (w : Word) : wordOf (hiByte w) (loByte w) = w := by
  rw [wordOf, toNat_hiByte_loByte, BitVec.ofNat_toNat, BitVec.setWidth_eq]

/-- The check word of a frame read stores it (R16). -/
theorem Link.Reads.check {l : Link} {stored : List Frame} {content : List Byte} {n : Nat}
    (h : l.Reads stored .check content n) {hi lo : Byte} (right : crcOf content = wordOf hi lo) :
    ((l.receive (escaped hi)).receive (escaped lo)).ingress = stored ++ [Frame.ofContent content] ∧
      ((l.receive (escaped hi)).receive (escaped lo)).rx = .hunt := by
  obtain ⟨m, e, rx, ingress, rate, read⟩ := Link.receive_escaped hi h.rx rfl
  rw [Link.contentByte_check_first rfl] at read
  obtain ⟨m', e', rx', ingress', rate', read'⟩ := Link.receive_escaped
    (l := { m with rx := .frame .check ⟨content, n, crcByte (crcOf content) hi, [hi], false⟩ }) lo rfl rfl
  have zero : crcByte (crcByte (crcOf content) hi) lo = 0 := by
    obtain ⟨-, -, -, -, check⟩ := checkWordIsTheCrc
    rw [← (check content hi lo).2 right, ← crcOf_concat, ← crcOf_concat, List.append_assoc]
    rfl
  rw [Link.contentByte_check_stored (a := ⟨content, n, crcByte (crcOf content) hi, [hi], e'⟩) rfl zero] at read'
  rw [read, read']
  exact ⟨by rw [ingress', ingress, h.ingress], rfl⟩

theorem Frame.ofContent_content (f : Frame) : Frame.ofContent f.content = f := by
  have address : wordOf (hiByte f.address) (loByte f.address) = f.address := wordOf_hiByte_loByte _
  cases f
  simp only [Frame.content, wordBytes, List.cons_append, List.nil_append, Frame.ofContent]
  dsimp only at address
  rw [address]

theorem Frame.content_eq (f : Frame) : f.content =
    [f.kind, f.tag, hiByte f.address, loByte f.address, hiByte (BitVec.ofNat 16 f.payload.length),
      loByte (BitVec.ofNat 16 f.payload.length)] ++ f.payload := rfl

/-- Header and payload are read one byte after the other. -/
theorem Link.Reads.content {l : Link} {stored : List Frame} (start : l.Reads stored .header [] 0) (f : Frame)
    (short : f.payload.length ≤ 1024) (room : (stored.map Frame.space).sum + 6 + f.payload.length ≤ 2048) :
    (l.receive (f.content.flatMap escaped)).Reads stored .check f.content f.payload.length := by
  have length : (wordOf (hiByte (BitVec.ofNat 16 f.payload.length)) (loByte (BitVec.ofNat 16 f.payload.length))).toNat =
      f.payload.length := by
    rw [wordOf_hiByte_loByte, BitVec.toNat_ofNat]
    omega
  rw [Frame.content_eq]
  generalize BitVec.ofNat 16 f.payload.length = n at length
  have kind := start.header f.kind (by simp) (by simp; omega)
  have tag := kind.header f.tag (by simp) (by simp; omega)
  have addressHigh := tag.header (hiByte f.address) (by simp) (by simp; omega)
  have addressLow := addressHigh.header (loByte f.address) (by simp) (by simp; omega)
  have lengthHigh := addressLow.header (hiByte n) (by simp) (by simp; omega)
  simp only [List.nil_append, List.cons_append] at lengthHigh
  have header := lengthHigh.headerEnd (loByte n) (by omega) (by omega)
  have phase : (if f.payload.length = 0 then RxPhase.check else .body) = if f.payload = [] then .check else .body := by
    simp
  rw [length, phase] at header
  have whole := Link.Reads.payload f.payload header (by simp) room
  rw [List.flatMap_append, Link.receive_append]
  simp only [List.flatMap_cons, List.flatMap_nil, List.append_nil, Link.receive_append]
  exact whole

theorem Link.receive_wire (l : Link) (f : Frame) : l.receive f.wire =
    ((((l.receiveByte 0xC3).receiveByte 0x3C).receive (f.content.flatMap escaped)).receive
      (escaped (hiByte (crcOf f.content)))).receive (escaped (loByte (crcOf f.content))) := by
  rw [Frame.wire, Link.receive_cons, Link.receive_cons, List.flatMap_append, Link.receive_append, wordBytes,
    List.flatMap_cons, List.flatMap_cons, List.flatMap_nil, List.append_nil, Link.receive_append]
  rfl

/-- Settles O13: opening pair, header, payload and check word are read one after the other. -/
theorem sentFrameIsStored : Obligations.SentFrameIsStored := by
  intro l f hunt noRate short room
  have opened : (l.receiveByte 0xC3).receiveByte 0x3C = { l with rx := .frame .header Assembly.new } := by
    rw [Link.receiveByte_hunt _ hunt, if_pos rfl, Link.receiveByte_armed _ rfl, if_pos rfl]
  have start : Link.Reads { l with rx := .frame .header Assembly.new } l.ingress .header [] 0 := ⟨rfl, noRate, rfl⟩
  have space : (l.ingress.map Frame.space).sum + 6 + f.payload.length ≤ 2048 := by
    rw [Link.occupancy, hunt] at room
    exact room
  have stored := (start.content f short space).check (wordOf_hiByte_loByte _).symm
  rw [← opened, ← Link.receive_wire, Frame.ofContent_content] at stored
  exact stored

/-! ## HOLD-out -/

/-- Settles O14: a change of occupancy is judged with the marks of the profile. -/
theorem holdOutFollowsTheMarks : Obligations.HoldOutFollowsTheMarks := by
  intro was l
  refine ⟨fun same => if_pos same, fun changed => ?_⟩
  have judged : l.judgeHold was = { l with
      marks := ⟨l.profile.high, l.profile.low⟩,
      holdOut := holdOutAfter l.holdOut l.occupancy ⟨l.profile.high, l.profile.low⟩ } := if_neg changed
  rw [judged]
  refine ⟨rfl, fun off high => ?_, fun off below => ?_, fun on low => ?_, fun on above => ?_⟩
  all_goals simp_all [holdOutAfter]

end Sys2Proof.Machine
end

section
/-! PROOF. Link state: changes of PRESENT, the bound of a self-disable (R9, R33, R34, R171), and what a link transmitter
sends (R17, R23, R30 to R32). -/

namespace Sys2Proof.Machine

/-! ## Link state -/

theorem Link.up_iff (l : Link) : l.up = true ↔ l.present = true ∧ (l.profile.enabled = true ∨ l.selfDisable ≠ none) := by
  simp [Link.up, Option.isSome_iff_ne_none]

theorem Link.up_takePresent (l : Link) :
    l.takePresent.up = (l.presentPin && (l.profile.enabled || l.selfDisable.isSome)) := rfl

theorem Link.takePresent_of_pin {l : Link} {v : Bool} (pin : l.presentPin = v) :
    l.takePresent = { l with present := v, presentTicks := 0 } := by
  subst pin
  rfl

theorem Link.takePresent_of_same {l : Link} (same : l.present = l.presentPin) :
    l.takePresent = { l with presentTicks := 0 } := by
  cases l
  cases same
  rfl

section
variable {s : State} {k : LinkId}

theorem exec_presentChangeTaken_same (running : s.inReset = false) :
    exec (.presentChangeTaken k (s.link k).presentPin) s = .next (s.whenDue (.present k) (s.takePresent k)) :=
  (State.live_running _ running).trans (congrArg _ (if_pos rfl))

/-- The level given moves the line behind the change that is due (log entry 3). -/
theorem exec_presentChangeTaken_moved {level : Bool} (running : s.inReset = false)
    (moved : (s.link k).presentPin ≠ level) : exec (.presentChangeTaken k level) s =
      .next ((s.whenDue (.present k) (s.takePresent k)).mapLink k (Link.putPresent level)) :=
  (State.live_running _ running).trans (congrArg _ (if_neg moved))

theorem Due.present_early (early : (s.link k).presentTicks < 10) : (Due.present k).isDue s = false := by
  rw [Bool.eq_false_iff, ne_eq, Due.present_isDue]
  omega

theorem exec_presentChangeTaken_due (running : s.inReset = false) (held : 10 ≤ (s.link k).presentTicks) :
    exec (.presentChangeTaken k (s.link k).presentPin) s = .next (s.takePresent k) := by
  rw [exec_presentChangeTaken_same running, State.whenDue_due _ ((Due.present_isDue s k).2 held)]

end

/-- A teardown is one of the state before, where only the present state and the filter were different. -/
theorem TornDown.of_link {s u t : State} {k : LinkId} (h : TornDown u t k) (tx : (u.link k).tx = (s.link k).tx)
    (counters : (u.link k).counters = (s.link k).counters) (profile : (u.link k).profile = (s.link k).profile) :
    TornDown s t k :=
  { h with
    transmitter := fun sends => h.transmitter (by rwa [tx])
    counters := h.counters.trans counters
    profile := h.profile.trans profile }

theorem State.up_tearDown_self {s : State} {k : LinkId} (down : (s.link k).tearDown.up = false) :
    ((s.tearDown k).link k).up = false := by
  rw [State.link_tearDown s k down, down]

/-- Settles O15: what is taken by whether the link is UP before and after. -/
theorem presentMovesTheLink : Obligations.PresentMovesTheLink := by
  refine ⟨Link.up_iff, fun s k level running => ⟨fun early same => ?_, fun early moved => ?_, fun held same old => ?_,
    fun held moved => ⟨s.takePresent k, exec_presentChangeTaken_due running held, ?_⟩⟩,
    fun s k running held pin old => ?_, fun s k running held pin old => ?_, fun s k ms runs => ?_, fun s k noRun => ?_⟩
  · subst same
    rw [exec_presentChangeTaken_same running, State.whenDue_not_due _ (Due.present_early early)]
  · rw [exec_presentChangeTaken_moved running moved, State.whenDue_not_due _ (Due.present_early early)]
    rfl
  · subst same
    have same := Link.takePresent_of_same old
    rw [exec_presentChangeTaken_due running held, State.takePresent_same (by rw [same]; rfl), State.mapLink, same]
  · rw [exec_presentChangeTaken_moved running moved, State.whenDue_due _ ((Due.present_isDue s k).2 held)]
    rfl
  · have taken := Link.takePresent_of_pin pin
    have was : (s.link k).up = false := by simp [Link.up, old]
    have due := exec_presentChangeTaken_due running held
    rw [pin] at due
    rw [due]
    refine ⟨fun allowed => ?_, fun disabled none => ?_⟩
    · have up : (s.link k).takePresent.up = true := by
        rw [Link.up_iff, taken]
        exact ⟨rfl, allowed⟩
      rw [State.takePresent_up was up, State.mapLink, taken]
      rfl
    · have stays : (s.link k).takePresent.up = (s.link k).up := by
        rw [was, Link.up_takePresent, disabled, none]
        simp
      rw [State.takePresent_same stays, State.mapLink, taken]
  · have taken := Link.takePresent_of_pin pin
    have down : (s.link k).takePresent.up = false := by rw [Link.up_takePresent, pin, Bool.false_and]
    have due := exec_presentChangeTaken_due running held
    rw [pin] at due
    rw [due]
    refine ⟨fun was => ⟨s.takePresent k, rfl, ?_⟩, fun was => ?_⟩
    · have torn : ((s.mapLink k Link.takePresent).link k).tearDown.up = false := by
        rw [State.link_mapLink_self, Link.up_tearDown, taken, Bool.false_and]
      rw [State.takePresent_down was down]
      refine ⟨(State.tornDown _ k torn).of_link ?_ ?_ ?_, State.up_tearDown_self torn⟩
      all_goals
        rw [State.link_mapLink_self]
        rfl
    · rw [State.takePresent_same (down.trans was.symm), State.mapLink, taken]
  · refine ⟨fun running late disabled => ⟨s.tearDown k, ?_, ?_, ?_⟩, fun early => ?_⟩
    · exact exec_command (d := .selfDisable k) running ((Due.selfDisable_isDue s k).2 ⟨ms, runs, late⟩)
    · exact s.tornDown k (by rw [Link.up_tearDown, disabled, Bool.and_false])
    · exact State.up_tearDown_self (by rw [Link.up_tearDown, disabled, Bool.and_false])
    · refine State.live_of_eq (State.whenDue_not_due _ ?_)
      rw [Bool.eq_false_iff, ne_eq, Due.selfDisable_isDue, runs]
      rintro ⟨n, e, late⟩
      cases e
      omega
  · refine State.live_of_eq (State.whenDue_not_due _ ?_)
    rw [Bool.eq_false_iff, ne_eq, Due.selfDisable_isDue]
    rintro ⟨n, e, -⟩
    rcases noRun with none | overtaken
    · rw [none] at e
      cases e
    · rw [overtaken] at e
      cases e

/-! ## Boundaries of a link transmitter -/

/-- The link of a boundary before a choice is made (R17, R23). -/
def Link.atBoundary (l : Link) (holdIn : Bool) : Link :=
  { l with tx := .idleFill, holdInPin := holdIn, txRate := l.txNewRate.getD l.txRate, txNewRate := none }

section
variable {s : State} {k : LinkId}

theorem State.boundary_def (s : State) (k : LinkId) (holdIn : Bool) : s.boundary k holdIn =
    if (s.link k).up && !holdIn then (s.mapLink k (fun l => l.atBoundary holdIn)).chooseFrame k
    else s.mapLink k (fun l => l.atBoundary holdIn) := by
  have up : ((s.mapLink k (fun l => l.atBoundary holdIn)).link k).up = (s.link k).up := by
    rw [State.link_mapLink_self]
    rfl
  rw [← up]
  rfl

theorem State.boundary_held {holdIn : Bool} (held : (s.link k).up = false ∨ holdIn = true) :
    s.boundary k holdIn = s.setLink k ((s.link k).atBoundary holdIn) := by
  have notChosen : ¬((s.link k).up && !holdIn) = true := by
    rcases held with down | held
    · simp [down]
    · simp [held]
  rw [State.boundary_def, if_neg notChosen, State.mapLink]

/-- What is chosen at a boundary of an UP link that is not held (R30). -/
def Link.choice (entryBytes : DataEntry → List Byte) (l : Link) : Link :=
  match l.control with
  | c :: cs => Link.send c.frame (.control c.mark) { l with control := cs }
  | [] =>
    match l.touch with
    | r :: rs => Link.send r.frame .touch { l with touch := rs }
    | [] =>
      match l.dataQ with
      | e :: _ => Link.send (dataFrame e.port (entryBytes e)) .data l
      | [] => { l with tx := .idleFill }

theorem State.boundary_chooses (up : (s.link k).up = true) :
    s.boundary k false = s.setLink k (((s.link k).atBoundary false).choice s.entryBytes) := by
  rw [State.boundary_def, if_pos (by simp [up]), State.chooseFrame, State.mapLink_mapLink]
  rfl

section
variable {entryBytes : DataEntry → List Byte} {l : Link}

theorem Link.choice_control {c : ControlFrame} {cs : List ControlFrame} (control : l.control = c :: cs) :
    l.choice entryBytes = Link.send c.frame (.control c.mark) { l with control := cs } := by
  simp only [Link.choice, control]

theorem Link.choice_touch {r : Report} {rs : List Report} (control : l.control = []) (touch : l.touch = r :: rs) :
    l.choice entryBytes = Link.send r.frame .touch { l with touch := rs } := by
  simp only [Link.choice, control, touch]

theorem Link.choice_data {e : DataEntry} {es : List DataEntry} (control : l.control = []) (touch : l.touch = [])
    (data : l.dataQ = e :: es) : l.choice entryBytes = Link.send (dataFrame e.port (entryBytes e)) .data l := by
  simp only [Link.choice, control, touch, data]

theorem Link.choice_nothing (control : l.control = []) (touch : l.touch = []) (data : l.dataQ = []) :
    l.choice entryBytes = { l with tx := .idleFill } := by
  simp only [Link.choice, control, touch, data]

end

theorem exec_idleCharacterEnd {holdIn : Bool} (running : s.inReset = false) (idle : (s.link k).tx = .idleFill) :
    exec (.idleCharacterEnd k holdIn) s = .next (s.boundary k holdIn) := by
  refine (State.live_running _ running).trans (congrArg _ ?_)
  rw [idle]

theorem exec_linkFrameComplete {holdIn : Bool} {f : Frame} {w : List Byte} {source : TxSource}
    (running : s.inReset = false) (sending : (s.link k).tx = .sending f w source) :
    exec (.linkFrameComplete k holdIn) s =
      .next ((s.setLink k { s.link k with tx := .idleFill }).completeFrame k holdIn source) := by
  refine (State.live_running _ running).trans (congrArg _ ?_)
  rw [sending]
  rfl

end

/-! ## Frames the part sends -/

theorem Resource.code_zone (z : ZoneId) : (Resource.zone z).code.toNat = 32 + z.val := by revert z; decide

theorem Resource.code_port (p : PortId) : (Resource.port p).code = byteOf p.val := rfl

theorem toNat_byteOf {n : Nat} (small : n < 256) : (byteOf n).toNat = n := by
  rw [byteOf, BitVec.toNat_ofNat]
  omega

theorem eq_byteOf {b : Byte} {n : Nat} (h : b.toNat = n) : b = byteOf n := by
  rw [byteOf, ← h, BitVec.ofNat_toNat, BitVec.setWidth_eq]

theorem State.entryBytes_handed {s : State} {e : DataEntry} {bytes : List Byte} {k : LinkId} {thisJob : Bool}
    (handed : (s.port e.port).inb e.buf = .handed bytes k thisJob) (count : e.count = bytes.length) :
    s.entryBytes e = bytes := by
  rw [State.entryBytes, handed]
  dsimp only
  rw [count, List.take_length]

theorem PortState.isJob_iff (st : PortState) : st.isJob = true ↔ st = .opened ∨ st = .suspended ∨ st = .closing := by
  cases st <;> simp [PortState.isJob]

/-- No buffer is the filling one. -/
theorem Port.filling_eq_none {x : Port} : x.filling = none ↔ ∀ (b : BufId) (bytes : List Byte), x.inb b ≠ .filling bytes := by
  constructor
  · intro none b bytes filling
    cases b
    · have first : x.i0 = .filling bytes := filling
      simp [Port.filling, first] at none
    · have second : x.i1 = .filling bytes := filling
      cases first : x.i0 <;> simp [Port.filling, first, second] at none
  · intro other
    cases filling : x.filling with
    | none => rfl
    | some found => exact absurd (Port.filling_eq filling) (other _ _)

theorem BufId.eq_other {b c : BufId} (ne : c ≠ b) : c = b.other := by
  cases b <;> cases c
  case b0.b0 | b1.b1 => exact absurd rfl ne
  case b0.b1 | b1.b0 => rfl

section
variable {x : Port}

/-- A freed buffer of an open job becomes the filling one when the other is not (R132, R137). -/
theorem Port.returnBuffer_fills {b : BufId} (job : x.state.isJob = true)
    (other : ∀ bytes, x.inb b.other ≠ .filling bytes) : x.returnBuffer b = Port.judge (x.setInb b (.filling [])) := by
  have state : (x.setInb b .free).state = x.state := by cases b <;> rfl
  have none : (x.setInb b .free).filling = none := by
    rw [Port.filling_eq_none]
    intro c bytes
    by_cases same : c = b
    · rw [same, Port.inb_setInb]
      exact InBuf.noConfusion
    · rw [Port.inb_setInb_ne x same, BufId.eq_other same]
      exact other bytes
  have twice : (x.setInb b .free).setInb b (.filling []) = x.setInb b (.filling []) := by cases b <;> rfl
  simp only [Port.returnBuffer, state, job, none, Option.isNone_none, Bool.and_self, if_true, twice]

theorem Port.returnBuffer_frees {b : BufId} (h : x.state.isJob = false ∨ ∃ bytes, x.inb b.other = .filling bytes) :
    x.returnBuffer b = Port.judge (x.setInb b .free) := by
  have state : (x.setInb b .free).state = x.state := by cases b <;> rfl
  have stays : ((x.setInb b .free).state.isJob && (x.setInb b .free).filling.isNone) = false := by
    rcases h with noJob | ⟨bytes, filling⟩
    · rw [state, noJob, Bool.false_and]
    · have some : (x.setInb b .free).filling ≠ none := by
        rw [ne_eq, Port.filling_eq_none]
        intro no
        exact no b.other bytes (by rw [Port.inb_setInb_other, filling])
      rw [Option.isNone_eq_false_iff.2 (Option.isSome_iff_ne_none.2 some), Bool.and_false]
  simp only [Port.returnBuffer, stays, Bool.false_eq_true, if_false]

end

theorem State.finishEntry_cons {s : State} {k : LinkId} {e : DataEntry} {es : List DataEntry}
    (queue : (s.link k).dataQ = e :: es) :
    s.finishEntry k =
      (s.mapLink k (fun l => { l with dataQ := es })).mapPort e.port (Port.returnBuffer e.buf) := by
  rw [State.finishEntry, queue]

/-- Settles O16: the boundary by the queues, the completions by the source, and what the frames hold. -/
theorem transmitterChoosesInOrder : Obligations.TransmitterChoosesInOrder := by
  refine ⟨fun s k h l running idle e => ?_, fun s k h f w source running sending => ?_, ?_, fun p bytes => rfl,
    fun s e bytes k j handed count => State.entryBytes_handed handed count, fun x job isJob => ?_⟩
  · have at_ : l = (s.link k).atBoundary h := by
      rw [e, Link.atBoundary, ← idle]
    rw [exec_idleCharacterEnd running idle, at_]
    refine ⟨fun held => congrArg _ (State.boundary_held held), ?_, ?_, ?_, ?_, rfl⟩
    · rintro c cs up rfl control
      rw [State.boundary_chooses up, Link.choice_control (l := (s.link k).atBoundary false) (c := c) (cs := cs) control]
      rfl
    · rintro r rs up rfl control touch
      rw [State.boundary_chooses up, Link.choice_touch (l := (s.link k).atBoundary false) (r := r) (rs := rs) control touch]
      rfl
    · rintro d ds up rfl control touch data
      rw [State.boundary_chooses up, Link.choice_data (l := (s.link k).atBoundary false) (e := d) (es := ds) control touch data]
      rfl
    · rintro up rfl control touch data
      rw [State.boundary_chooses up, Link.choice_nothing (l := (s.link k).atBoundary false) control touch data]
      rfl
  · rw [exec_linkFrameComplete running sending]
    refine ⟨?_, ?_, ?_⟩
    · rintro (rfl | rfl) <;> rfl
    · rintro d ds rfl data
      have entry : ((s.setLink k { s.link k with tx := .idleFill }).link k).dataQ = d :: ds := by
        rw [State.link_setLink_self]
        exact data
      rw [State.completeFrame, State.finishEntry_cons entry, State.mapLink, State.link_setLink_self, State.setLink_setLink]
    · rintro ms rfl runs
      have self : (s.setLink k { s.link k with tx := .idleFill }).selfDisableRuns k = true := by
        rw [State.selfDisableRuns, State.link_setLink_self]
        dsimp only
        rw [runs]
      rw [State.completeFrame, if_pos self]
  · rintro z p ph c x y a zb pb zone rfl
    have phase : ph.code = (match ph with | .down => 0 | .move => 1 | .up => 2) := by cases ph <;> rfl
    rcases zone with ⟨rfl, rfl, rfl⟩ | ⟨v, rfl, address, number⟩
    · rw [Report.frame, phase]
      rfl
    · have code : (Resource.zone v).code = a := by
        rw [← BitVec.toNat_inj, Resource.code_zone, address]
      rw [Report.frame, phase, eq_byteOf number]
      dsimp only
      rw [code]
      rfl
  · have iff : job ↔ x.state.isJob = true := isJob.trans (PortState.isJob_iff _).symm
    have noJob (h : ¬job) : x.state.isJob = false := by
      rw [iff] at h
      simpa using h
    exact ⟨fun j other => Port.returnBuffer_fills (b := .b0) (iff.1 j) other,
      fun h => Port.returnBuffer_frees (b := .b0) (h.imp noJob id),
      fun j other => Port.returnBuffer_fills (b := .b1) (iff.1 j) other,
      fun h => Port.returnBuffer_frees (b := .b1) (h.imp noJob id)⟩

end Sys2Proof.Machine
end

section
/-! PROOF. The dispatcher takes the oldest stored frame (R39 to R42, R49, R163) and moves pending notices (R52 to R55). -/

namespace Sys2Proof.Machine

/-! ## Taking a frame -/

theorem State.canTake_iff (s : State) (k : LinkId) : s.inReset = false ∧ s.canTake k = true ↔ MayTake s k := by
  simp only [State.canTake, Link.canMove, MayTake, Bool.and_eq_true, Bool.not_eq_true', Bool.and_eq_false_iff,
    Bool.not_eq_false', Option.isNone_iff_eq_none, List.isEmpty_iff, decide_eq_true_eq, decide_eq_false_iff_not]
  constructor
  · rintro ⟨running, ⟨⟨⟨⟨up, restart⟩, disable⟩, hand⟩, room⟩, ((down | busy) | full) | empty⟩
    · rw [up] at down
      cases down
    · rw [hand] at busy
      cases busy
    · exact ⟨running, up, restart, disable, hand, room, .inr (by omega)⟩
    · exact ⟨running, up, restart, disable, hand, room, .inl empty⟩
  · rintro ⟨running, up, restart, disable, hand, room, empty | full⟩
    · exact ⟨running, ⟨⟨⟨⟨up, restart⟩, disable⟩, hand⟩, room⟩, .inr empty⟩
    · exact ⟨running, ⟨⟨⟨⟨up, restart⟩, disable⟩, hand⟩, room⟩, .inl (.inr (by omega))⟩

/-- What a judged frame of link k becomes (R41, R42). -/
def State.afterTaking (t : State) (k : LinkId) (f : Frame) : Taken → State
  | .answer a => t.mapLink k (Link.placeAnswer f.tag f.address a)
  | .hand r => t.mapLink k (fun l => { l with hand := some ⟨f.tag, f.address, r⟩ })

section
variable {s : State} {k : LinkId}

theorem State.live_of_running {s t : State} (h : s.inReset = false → t = s) : s.live t = .next s := by
  cases running : s.inReset with
  | false => rw [State.live_running _ running, h running]
  | true => exact State.live_held _ running

theorem exec_frameTaken_stays (h : ¬MayTake s k ∨ (s.link k).ingress = []) : exec (.frameTaken k) s = .next s := by
  refine State.live_of_running fun running => ?_
  cases ingress : (s.link k).ingress with
  | nil => rfl
  | cons f fs =>
    rcases h with not | empty
    · exact if_neg fun can => not ((s.canTake_iff k).1 ⟨running, can⟩)
    · rw [ingress] at empty
      cases empty

theorem exec_frameTaken {f : Frame} {fs : List Frame} (may : MayTake s k) (ingress : (s.link k).ingress = f :: fs) :
    exec (.frameTaken k) s =
      .next ((s.mapLink k (fun l => Link.judgeHold l.occupancy { l with ingress := fs })).afterTaking k f
        (s.judgeFrame k f)) := by
  obtain ⟨running, can⟩ := (s.canTake_iff k).2 may
  refine (State.live_running _ running).trans (congrArg _ ?_)
  rw [ingress]
  dsimp only
  rw [if_pos can]
  cases s.judgeFrame k f <;> rfl

variable {f : Frame}

theorem State.judgeFrame_claim (kind : f.kind = 0x01) : s.judgeFrame k f =
    match claimMode f.payload with
    | none => Taken.bad
    | some wait => s.decodeRequest f.address (fun r rights => .claim r rights wait) := by
  rw [State.judgeFrame, kind]
  rfl

theorem State.judgeFrame_release (kind : f.kind = 0x02) : s.judgeFrame k f =
    if f.payload.isEmpty then s.decodeRequest f.address .release else Taken.bad := by
  rw [State.judgeFrame, kind]
  rfl

theorem State.judgeFrame_data (kind : f.kind = 0x03) : s.judgeFrame k f =
    s.decodeRequest f.address (fun r rights => .data r rights f.payload) := by
  rw [State.judgeFrame, kind]
  rfl

theorem State.judgeFrame_status (kind : f.kind = 0x04) : s.judgeFrame k f =
    if f.payload.isEmpty then s.decodeRequest f.address .status else Taken.bad := by
  rw [State.judgeFrame, kind]
  rfl

theorem State.judgeFrame_mgmt (kind : f.kind = 0x0F) : s.judgeFrame k f =
    if (s.link k).profile.mgmt then
      match mgmtOf f.payload with
      | none => Taken.bad
      | some cmd => .hand (.mgmt cmd f.payload)
    else .answer (Answer.plain .denied noResource 0) := by
  rw [State.judgeFrame, kind]
  rfl

theorem State.judgeFrame_unknown (claim : f.kind ≠ 0x01) (release : f.kind ≠ 0x02) (data : f.kind ≠ 0x03)
    (status : f.kind ≠ 0x04) (mgmt : f.kind ≠ 0x0F) : s.judgeFrame k f = Taken.bad := by
  unfold State.judgeFrame
  split
  · next e => exact absurd (BitVec.eq_of_toNat_eq e) claim
  · next e => exact absurd (BitVec.eq_of_toNat_eq e) release
  · next e => exact absurd (BitVec.eq_of_toNat_eq e) data
  · next e => exact absurd (BitVec.eq_of_toNat_eq e) status
  · next e => exact absurd (BitVec.eq_of_toNat_eq e) mgmt
  · rfl

theorem State.decodeRequest_none {a : Word} (g : Resource → Rights → Request) (govern : s.govern a = none) :
    s.decodeRequest a g = .answer (Answer.plain .noService 0xFF 0) := by
  rw [State.decodeRequest, govern]
  rfl

theorem State.decodeRequest_some {a : Word} {w : Window} (g : Resource → Rights → Request) (govern : s.govern a = some w) :
    s.decodeRequest a g = .hand (g w.target w.rights) := by
  rw [State.decodeRequest, govern]

end

theorem MgmtCmd.ofByte_above {b : Byte} (large : 15 < b.toNat) : MgmtCmd.ofByte b = none := by
  unfold MgmtCmd.ofByte
  split
  case h_16 => rfl
  all_goals omega

theorem claimMode_bad {payload : List Byte} (noWait : payload ≠ [0x00]) (wait : payload ≠ [0x01]) :
    claimMode payload = none := by
  unfold claimMode
  split
  · next m =>
    have zero : m.toNat ≠ 0 := fun e => noWait (congrArg (· :: []) (BitVec.eq_of_toNat_eq e))
    have one : m.toNat ≠ 1 := fun e => wait (congrArg (· :: []) (BitVec.eq_of_toNat_eq e))
    exact flagOf_eq_none (by omega)
  · rfl

/-- Settles O17: the taking is judged by kind, payload and governing window. -/
theorem takenFrameIsJudged : Obligations.TakenFrameIsJudged := by
  refine ⟨⟨by decide, fun b large => MgmtCmd.ofByte_above large⟩, fun l => rfl, fun s k h => exec_frameTaken_stays h,
    fun s k f fs t bad may ingress at_ bad_ => ?_⟩
  have taken {j : Taken} (judged : s.judgeFrame k f = j) : exec (.frameTaken k) s = .next (t.afterTaking k f j) := by
    rw [exec_frameTaken may ingress, judged, at_]
  have refused (judged : s.judgeFrame k f = Taken.bad) : exec (.frameTaken k) s = .next bad := by
    rw [taken judged, bad_]
    rfl
  have decoded : f.kind = 0x01 ∧ (f.payload = [0x00] ∨ f.payload = [0x01]) ∨ f.kind = 0x02 ∧ f.payload = [] ∨
      f.kind = 0x03 ∨ f.kind = 0x04 ∧ f.payload = [] → ∃ g, s.judgeFrame k f = s.decodeRequest f.address g := by
    rintro (⟨kind, payload | payload⟩ | ⟨kind, payload⟩ | kind | ⟨kind, payload⟩)
    · exact ⟨_, by rw [State.judgeFrame_claim kind, payload]; rfl⟩
    · exact ⟨_, by rw [State.judgeFrame_claim kind, payload]; rfl⟩
    · exact ⟨_, by rw [State.judgeFrame_release kind, payload]; rfl⟩
    · exact ⟨_, State.judgeFrame_data kind⟩
    · exact ⟨_, by rw [State.judgeFrame_status kind, payload]; rfl⟩
  refine ⟨?_, ?_, ?_, ?_, ?_, ?_, ?_, fun w govern => ⟨?_, ?_, ?_, ?_, ?_⟩⟩
  · exact fun claim release data status mgmt => refused (State.judgeFrame_unknown claim release data status mgmt)
  · intro kind off
    refine taken (j := .answer (Answer.plain .denied 0xFF 0)) ?_
    rw [State.judgeFrame_mgmt kind, off]
    rfl
  · intro c ops cmd kind on payload command
    refine taken (j := .hand (.mgmt cmd f.payload)) ?_
    rw [State.judgeFrame_mgmt kind, if_pos on, payload, mgmtOf, command]
  · rintro kind on (payload | ⟨c, ops, payload, command⟩)
    · refine refused ?_
      rw [State.judgeFrame_mgmt kind, if_pos on, payload]
      rfl
    · refine refused ?_
      rw [State.judgeFrame_mgmt kind, if_pos on, payload, mgmtOf, command]
  · intro kind noWait wait
    refine refused ?_
    rw [State.judgeFrame_claim kind, claimMode_bad noWait wait]
  · rintro (kind | kind) payload
    · refine refused ?_
      rw [State.judgeFrame_release kind, if_neg (mt List.isEmpty_iff.1 payload)]
    · refine refused ?_
      rw [State.judgeFrame_status kind, if_neg (mt List.isEmpty_iff.1 payload)]
  · intro form govern
    obtain ⟨g, judged⟩ := decoded form
    exact taken (judged.trans (State.decodeRequest_none g govern))
  · intro kind payload
    refine taken (j := .hand (.claim w.target w.rights false)) ?_
    rw [State.judgeFrame_claim kind, payload]
    exact State.decodeRequest_some _ govern
  · intro kind payload
    refine taken (j := .hand (.claim w.target w.rights true)) ?_
    rw [State.judgeFrame_claim kind, payload]
    exact State.decodeRequest_some _ govern
  · intro kind payload
    refine taken (j := .hand (.release w.target w.rights)) ?_
    rw [State.judgeFrame_release kind, payload]
    exact State.decodeRequest_some _ govern
  · intro kind
    exact taken ((State.judgeFrame_data kind).trans (State.decodeRequest_some _ govern))
  · intro kind payload
    refine taken (j := .hand (.status w.target w.rights)) ?_
    rw [State.judgeFrame_status kind, payload]
    exact State.decodeRequest_some _ govern

end Sys2Proof.Machine
end

section
/-! PROOF. The pending notices: what a set holds after one enters it, and how they leave it (R52 to R55). -/

namespace Sys2Proof.Machine

/-! ## Kinds -/

theorem Notice.sameKey_eq_false {m n : Notice} :
    m.sameKey n = false ↔ (m.resource = n.resource → m.body.rank ≠ n.body.rank) := by
  simp only [Notice.sameKey, Bool.and_eq_false_iff, beq_eq_false_iff_ne]
  tauto

theorem NoticeBody.withdrawnByRevoke_eq_false {b : NoticeBody} :
    b.withdrawnByRevoke = false ↔ b.rank ≠ 4 ∧ b.rank ≠ 5 ∧ b.rank ≠ 6 ∧ b.rank ≠ 7 := by
  cases b <;> simp [NoticeBody.withdrawnByRevoke, NoticeBody.rank]

theorem NoticeBody.eq_suspended_iff {b : NoticeBody} : b = .suspended ↔ b.rank = 5 := by
  cases b <;> simp [NoticeBody.rank]

theorem NoticeBody.eq_resumed_iff {b : NoticeBody} : b = .resumed ↔ b.rank = 6 := by
  cases b <;> simp [NoticeBody.rank]

/-! ## Entering a set -/

section
variable {set : List Notice} {r : Resource} {tag : Byte} {m : Notice}

theorem mem_replaceNotice_iff {b : NoticeBody} : m ∈ replaceNotice ⟨b, r, tag⟩ set ↔ m = ⟨b, r, tag⟩ ∨
    (m ∈ set ∧ (m.resource = r → m.body.rank ≠ b.rank)) := by
  rw [mem_replaceNotice, Notice.sameKey_eq_false]

theorem mem_mergeNotice_revoked (c : Cause) : m ∈ mergeNotice set ⟨.revoked c, r, tag⟩ ↔ m = ⟨.revoked c, r, tag⟩ ∨
    (m ∈ set ∧ (m.resource = r →
      m.body.rank ≠ 1 ∧ m.body.rank ≠ 4 ∧ m.body.rank ≠ 5 ∧ m.body.rank ≠ 6 ∧ m.body.rank ≠ 7)) := by
  have revoked : (NoticeBody.revoked c).rank = 1 := rfl
  simp only [mergeNotice, mem_replaceNotice_iff, List.mem_filter, Bool.not_eq_true', Bool.and_eq_false_iff,
    beq_eq_false_iff_ne, NoticeBody.withdrawnByRevoke_eq_false, revoked]
  tauto

theorem mem_mergeNotice_suspended : m ∈ mergeNotice set ⟨.suspended, r, tag⟩ ↔ m = ⟨.suspended, r, tag⟩ ∨
    (m ∈ set ∧ (m.resource = r → m.body.rank ≠ 5 ∧ m.body.rank ≠ 6)) := by
  have suspended : NoticeBody.suspended.rank = 5 := rfl
  simp only [mergeNotice, mem_replaceNotice_iff, List.mem_filter, Bool.not_eq_true', Bool.and_eq_false_iff,
    beq_eq_false_iff_ne, ne_eq, NoticeBody.eq_resumed_iff, suspended]
  tauto

theorem any_suspended_iff : set.any (fun q => q.resource == r && q.body == .suspended) = true ↔
    ∃ q ∈ set, q.resource = r ∧ q.body = .suspended := by
  simp only [List.any_eq_true, Bool.and_eq_true, beq_iff_eq]

theorem mem_mergeNotice_resumed_cancels (pending : ∃ q ∈ set, q.resource = r ∧ q.body = .suspended) :
    m ∈ mergeNotice set ⟨.resumed, r, tag⟩ ↔ m ∈ set ∧ (m.resource = r → m.body.rank ≠ 5) := by
  simp only [mergeNotice, any_suspended_iff.2 pending, if_true, List.mem_filter, Bool.not_eq_true',
    Bool.and_eq_false_iff, beq_eq_false_iff_ne, ne_eq, NoticeBody.eq_suspended_iff]
  tauto

theorem mem_mergeNotice_resumed_enters (absent : ¬∃ q ∈ set, q.resource = r ∧ q.body = .suspended) :
    m ∈ mergeNotice set ⟨.resumed, r, tag⟩ ↔ m = ⟨.resumed, r, tag⟩ ∨
      (m ∈ set ∧ (m.resource = r → m.body.rank ≠ 6)) := by
  rw [mergeNotice]
  dsimp only
  rw [if_neg (mt any_suspended_iff.1 absent), mem_replaceNotice_iff]
  rfl

theorem mem_mergeNotice_credit_adds (a c : Nat) (old : Byte) (pending : (⟨.credit c, r, old⟩ : Notice) ∈ set)
    (only : ∀ q ∈ set, q.resource = r → q.body.rank = 7 → q = ⟨.credit c, r, old⟩) :
    m ∈ mergeNotice set ⟨.credit a, r, tag⟩ ↔ m = ⟨.credit (c + a), r, old⟩ ∨
      (m ∈ set ∧ (m.resource = r → m.body.rank ≠ 7)) := by
  have found : set.find? (fun q => q.sameKey ⟨.credit a, r, tag⟩) = some ⟨.credit c, r, old⟩ := by
    cases search : set.find? (fun q => q.sameKey ⟨.credit a, r, tag⟩) with
    | none =>
      have not := List.find?_eq_none.1 search _ pending
      simp [Notice.sameKey, NoticeBody.rank] at not
    | some q =>
      have key := List.find?_some search
      simp only [Notice.sameKey, Bool.and_eq_true, beq_iff_eq] at key
      rw [only q (List.mem_of_find?_eq_some search) key.2 key.1]
  rw [mergeNotice]
  dsimp only
  rw [found]
  dsimp only
  rw [mem_replaceNotice_iff]
  rfl

theorem mem_mergeNotice_credit_enters (a : Nat) (absent : ∀ q ∈ set, q.resource = r → q.body.rank ≠ 7) :
    m ∈ mergeNotice set ⟨.credit a, r, tag⟩ ↔ m = ⟨.credit a, r, tag⟩ ∨ m ∈ set := by
  have search : set.find? (fun q => q.sameKey ⟨.credit a, r, tag⟩) = none :=
    List.find?_eq_none.2 fun q mem => Bool.not_eq_true _ ▸ Notice.sameKey_eq_false.2 (absent q mem)
  rw [mergeNotice]
  dsimp only
  rw [search]
  dsimp only
  rw [mem_replaceNotice_iff]
  exact or_congr_right ⟨And.left, fun mem => ⟨mem, absent m mem⟩⟩

theorem mem_mergeNotice_replaces {b : NoticeBody} (kind : b.rank = 2 ∨ b.rank = 3 ∨ b.rank = 4 ∨ b.rank = 8) :
    m ∈ mergeNotice set ⟨b, r, tag⟩ ↔ m = ⟨b, r, tag⟩ ∨ (m ∈ set ∧ (m.resource = r → m.body.rank ≠ b.rank)) := by
  have replaces : mergeNotice set ⟨b, r, tag⟩ = replaceNotice ⟨b, r, tag⟩ set := by
    cases b with
    | dropped | released | granted | portState => rfl
    | revoked | suspended | resumed | credit => simp [NoticeBody.rank] at kind
  rw [replaces, mem_replaceNotice_iff]

end

/-! ## Leaving a set -/

section
variable {s : State} {k : LinkId} {n : Notice} {ns : List Notice}

theorem Link.canMove_iff (l : Link) :
    l.canMove = true ↔ l.up = true ∧ l.hand = none ∧ l.control.length ≤ 6 ∧ l.notices ≠ [] := by
  have places : 2 ≤ l.freePlaces ↔ l.control.length ≤ 6 := by
    have free : l.freePlaces = 8 - l.control.length := rfl
    omega
  simp only [Link.canMove, Bool.and_eq_true, Bool.not_eq_true', Option.isNone_iff_eq_none, decide_eq_true_eq, places,
    List.isEmpty_eq_false_iff, and_assoc]

theorem exec_noticeMove (running : s.inReset = false) (notices : (s.link k).notices = n :: ns) :
    exec (.noticeMove k) s = .next (if (s.link k).canMove then
      s.setLink k { s.link k with notices := ns, control := (s.link k).control ++ [⟨n.frame, none⟩] } else s) := by
  refine (State.live_running _ running).trans (congrArg _ ?_)
  rw [notices]
  rfl

end

theorem Resource.beq_not (r q : Resource) : (!(r == q)) = (r != q) := rfl

/-- The frame of a notice, by its kind and value byte (table 11.3.3). -/
theorem Notice.frame_of {b : NoticeBody} {r : Resource} {tag kind value : Byte} (rank : byteOf b.rank = kind)
    (val : (⟨b, r, tag⟩ : Notice).value = value) :
    Notice.frame ⟨b, r, tag⟩ = ⟨0x82, tag, wordOf 0 r.code, [kind, r.code, value]⟩ := by
  rw [Notice.frame, rank, val]

theorem notice_frame_by_kind (b : NoticeBody) (r : Resource) (tag kind value : Byte)
    (h : (b = .released ∧ kind = 3 ∧ value = 1) ∨
      (b = .granted ∧ kind = 4 ∧ value = (match r with | .port _ => 2 | .zone _ => 0)) ∨
      (b = .suspended ∧ kind = 5 ∧ value = 0) ∨ (b = .resumed ∧ kind = 6 ∧ value = 0) ∨
      (∃ a : Nat, b = .credit a ∧ kind = 7 ∧ value = byteOf a) ∨
      (∃ st : PortState, b = .portState st ∧ kind = 8 ∧ value = st.code) ∨
      (∃ c : Cause, (b = .revoked c ∧ kind = 1 ∨ b = .dropped c ∧ kind = 2) ∧
        value = (match c with
          | .idle => 1 | .fault => 2 | .offline => 3 | .stall => 4 | .managed => 5 | .disabled => 6))) :
    Notice.frame ⟨b, r, tag⟩ = ⟨0x82, tag, wordOf 0 r.code, [kind, r.code, value]⟩ ∧ b.rank = kind.toNat := by
  rcases h with ⟨rfl, rfl, rfl⟩ | ⟨rfl, rfl, rfl⟩ | ⟨rfl, rfl, rfl⟩ | ⟨rfl, rfl, rfl⟩ | ⟨a, rfl, rfl, rfl⟩ |
    ⟨st, rfl, rfl, rfl⟩ | ⟨c, ⟨rfl, rfl⟩ | ⟨rfl, rfl⟩, rfl⟩
  · exact ⟨Notice.frame_of rfl rfl, rfl⟩
  · exact ⟨Notice.frame_of rfl (by cases r <;> rfl), rfl⟩
  · exact ⟨Notice.frame_of rfl rfl, rfl⟩
  · exact ⟨Notice.frame_of rfl rfl, rfl⟩
  · exact ⟨Notice.frame_of rfl rfl, rfl⟩
  · exact ⟨Notice.frame_of rfl rfl, rfl⟩
  · exact ⟨Notice.frame_of rfl (by cases c <;> rfl), rfl⟩
  · exact ⟨Notice.frame_of rfl (by cases c <;> rfl), rfl⟩

/-- Settles O19: the membership of a merged set by kind of notice, and the two ways a notice leaves a set. -/
theorem noticesMergeAndMove : Obligations.NoticesMergeAndMove := by
  refine ⟨fun set r tag m => ⟨mem_mergeNotice_revoked, mem_mergeNotice_suspended, mem_mergeNotice_resumed_cancels,
    mem_mergeNotice_resumed_enters, mem_mergeNotice_credit_adds, mem_mergeNotice_credit_enters,
    fun b => mem_mergeNotice_replaces⟩, fun s k n ns running notices => ?_, fun s k => ⟨rfl, fun r => rfl⟩, ?_,
    fun s k n => ⟨State.enterNotice_down n, State.enterNotice_up n⟩⟩
  · have pending : (s.link k).notices ≠ [] := by
      rw [notices]
      exact List.cons_ne_nil n ns
    rw [exec_noticeMove running notices]
    refine ⟨fun up hand room => congrArg _ (if_pos ?_), fun cannot => congrArg _ (if_neg fun can => ?_)⟩
    · exact (s.link k).canMove_iff.2 ⟨up, hand, room, pending⟩
    · obtain ⟨up, hand, room, -⟩ := (s.link k).canMove_iff.1 can
      rcases cannot with down | busy | full
      · rw [up] at down
        cases down
      · exact busy hand
      · omega
  · exact notice_frame_by_kind

end Sys2Proof.Machine
end

section
/-! PROOF. What every handling event shares (R43, R44, R50, R51, R163): its room, its answer, and the checks made before
the request is performed. -/

namespace Sys2Proof.Machine

/-! ## The event begun -/

section
variable (s : State) (k : LinkId) (r : Option Resource)

@[simp] theorem State.cls_prepared (j : LinkId) : (s.prepared k r).cls j = s.cls j := by
  rw [State.cls, State.profile_prepared, State.cls]

@[simp] theorem State.lease_prepared (q : Resource) : (s.prepared k r).lease q = s.lease q := rfl

@[simp] theorem State.waits_prepared : (s.prepared k r).waits = s.waits := rfl

@[simp] theorem State.zone_prepared (z : ZoneId) : (s.prepared k r).zone z = s.zone z := rfl

@[simp] theorem State.isPanel_prepared (q : Resource) : (s.prepared k r).isPanel q = s.isPanel q := rfl

end

/-! ## The answer placed -/

theorem Result.refused_iff (r : Result) : r.refused = true ↔ 0x10 ≤ r.code.toNat := by
  cases r <;> decide

theorem Link.placeAnswer_eq (tag : Byte) (address : Word) (a : Answer) (l : Link) : l.placeAnswer tag address a =
    { l with
      control := l.control ++ [⟨⟨0x81, tag, address, [a.result.code, a.resource, a.detail] ++ a.more⟩, a.mark⟩],
      counters := { l.counters with
        refused := if 0x10 ≤ a.result.code.toNat then bump l.counters.refused else l.counters.refused } } := by
  by_cases refused : 0x10 ≤ a.result.code.toNat
  · rw [Link.placeAnswer, if_pos (a.result.refused_iff.2 refused), if_pos refused]
    rfl
  · rw [Link.placeAnswer, if_neg (mt a.result.refused_iff.1 refused), if_neg refused]
    rfl

/-! ## Waiting for room -/

section
variable {s t : State} {k : LinkId} {tag : Byte} {address : Word} {a : Answer}

theorem State.handle_no_room {h : Hand} {r : Option Resource} (perform : State → Performed)
    (full : (s.link k).roomFor r = false) : s.handle k h r perform = s := by
  simp only [State.handle, full, Bool.and_false, Bool.false_eq_true, if_false]

/-- A management command in hand is judged by its length, then performed (R163). -/
theorem State.manage_hand {cmd : MgmtCmd} {payload : List Byte} (perform : List Byte → State → Performed)
    (hand : (s.link k).hand = some ⟨tag, address, .mgmt cmd payload⟩) :
    s.manage k cmd perform = s.handle k ⟨tag, address, .mgmt cmd payload⟩ (cmd.names payload) (fun t =>
      if payload.length = cmd.length then perform (payload.drop 1) t
      else .answered t (Answer.plain .badRequest noResource 0)) := by
  simp only [State.manage, hand, if_true]

theorem exec_mgmt (s : State) (k : LinkId) (cmd : MgmtCmd) :
    ∃ perform, exec (cmd.instr k) s = s.live (s.manage k cmd perform) := by
  cases cmd <;> exact ⟨_, rfl⟩

/-! ## The four requests -/

variable {r : Resource} {rights : Rights}

theorem exec_claim_hand {wait : Bool} (hand : (s.link k).hand = some ⟨tag, address, .claim r rights wait⟩) :
    exec (.claim k) s = s.live (s.handle k ⟨tag, address, .claim r rights wait⟩ (some r)
      (State.performClaim k r rights wait tag)) := by
  show s.live _ = _
  rw [hand]

theorem exec_release_hand (hand : (s.link k).hand = some ⟨tag, address, .release r rights⟩) :
    exec (.release k) s =
      s.live (s.handle k ⟨tag, address, .release r rights⟩ (some r) (State.performRelease k r rights)) := by
  show s.live _ = _
  rw [hand]

theorem exec_data_hand {payload : List Byte} (hand : (s.link k).hand = some ⟨tag, address, .data r rights payload⟩) :
    exec (.data k) s =
      s.live (s.handle k ⟨tag, address, .data r rights payload⟩ (some r) (State.performData k r rights payload)) := by
  show s.live _ = _
  rw [hand]

theorem exec_status_hand (hand : (s.link k).hand = some ⟨tag, address, .status r rights⟩) :
    exec (.status k) s =
      s.live (s.handle k ⟨tag, address, .status r rights⟩ (some r) (State.performStatus k r rights)) := by
  show s.live _ = _
  rw [hand]

theorem exec_claim_answered {wait : Bool} (handles : Handles s k ⟨tag, address, .claim r rights wait⟩ (some r))
    (performed : State.performClaim k r rights wait tag (s.prepared k (some r)) = ⟨t, some a⟩) :
    exec (.claim k) s = .next (t.answer k ⟨tag, address, .claim r rights wait⟩ a) := by
  rw [exec_claim_hand handles.2.1, State.handle_answered handles performed, State.live_running _ handles.1]

theorem exec_release_answered (handles : Handles s k ⟨tag, address, .release r rights⟩ (some r))
    (performed : State.performRelease k r rights (s.prepared k (some r)) = ⟨t, some a⟩) :
    exec (.release k) s = .next (t.answer k ⟨tag, address, .release r rights⟩ a) := by
  rw [exec_release_hand handles.2.1, State.handle_answered handles performed, State.live_running _ handles.1]

theorem exec_data_answered {payload : List Byte} (handles : Handles s k ⟨tag, address, .data r rights payload⟩ (some r))
    (performed : State.performData k r rights payload (s.prepared k (some r)) = ⟨t, some a⟩) :
    exec (.data k) s = .next (t.answer k ⟨tag, address, .data r rights payload⟩ a) := by
  rw [exec_data_hand handles.2.1, State.handle_answered handles performed, State.live_running _ handles.1]

theorem exec_status_answered (handles : Handles s k ⟨tag, address, .status r rights⟩ (some r))
    (performed : State.performStatus k r rights (s.prepared k (some r)) = ⟨t, some a⟩) :
    exec (.status k) s = .next (t.answer k ⟨tag, address, .status r rights⟩ a) := by
  rw [exec_status_hand handles.2.1, State.handle_answered handles performed, State.live_running _ handles.1]

/-! ## The checks of R44 -/

theorem State.performClaim_denied {wait : Bool} (denied : (rights.of (s.cls k)).claim = false) :
    State.performClaim k r rights wait tag s = ⟨s, some (Answer.plain .denied r.code 0)⟩ := by
  simp [State.performClaim, denied, Performed.answered]

theorem State.performClaim_panel {wait : Bool} (allowed : (rights.of (s.cls k)).claim = true)
    (panel : s.isPanel r = true) :
    State.performClaim k r rights wait tag s = ⟨s, some (Answer.plain .badRequest r.code 0)⟩ := by
  simp [State.performClaim, allowed, panel, Performed.answered]

theorem State.performClaim_claims {wait : Bool} (allowed : (rights.of (s.cls k)).claim = true)
    (job : s.isPanel r = false) : State.performClaim k r rights wait tag s = s.claim k r wait tag := by
  simp [State.performClaim, allowed, job]

theorem State.performRelease_denied (denied : (rights.of (s.cls k)).claim = false) :
    State.performRelease k r rights s = ⟨s, some (Answer.plain .denied r.code 0)⟩ := by
  simp [State.performRelease, denied, Performed.answered]

theorem State.performRelease_panel (allowed : (rights.of (s.cls k)).claim = true) (panel : s.isPanel r = true) :
    State.performRelease k r rights s = ⟨s, some (Answer.plain .badRequest r.code 0)⟩ := by
  simp [State.performRelease, allowed, panel, Performed.answered]

theorem State.performRelease_releases (allowed : (rights.of (s.cls k)).claim = true) (job : s.isPanel r = false) :
    State.performRelease k r rights s = s.release k r := by
  simp [State.performRelease, allowed, job]

section
variable {payload : List Byte} {p : PortId}

theorem State.performData_denied (denied : (rights.of (s.cls k)).data = false) :
    State.performData k r rights payload s = ⟨s, some (Answer.plain .denied r.code 0)⟩ := by
  simp [State.performData, denied, Performed.answered]

theorem State.performData_zone {z : ZoneId} (allowed : (rights.of (s.cls k)).data = true) :
    State.performData k (.zone z) rights payload s =
      ⟨s, some (Answer.plain .badRequest (Resource.zone z).code 0)⟩ := by
  simp [State.performData, allowed, Performed.answered]

theorem State.performData_panel (allowed : (rights.of (s.cls k)).data = true) (panel : s.isPanel (.port p) = true) :
    State.performData k (.port p) rights payload s =
      ⟨s, some (Answer.plain .badRequest (Resource.port p).code 0)⟩ := by
  simp [State.performData, allowed, panel, Performed.answered]

theorem State.performData_length (allowed : (rights.of (s.cls k)).data = true) (job : s.isPanel (.port p) = false)
    (wrong : payload.length = 0 ∨ 512 < payload.length) :
    State.performData k (.port p) rights payload s = ⟨s, some (Answer.plain .length (Resource.port p).code 0)⟩ := by
  have wrong' : (payload.length = 0 || Config.maxJobData < payload.length) = true := by
    rw [Bool.or_eq_true, decide_eq_true_eq, decide_eq_true_eq]
    exact wrong
  simp only [State.performData, allowed, job, wrong', Performed.answered, Bool.not_true, Bool.false_eq_true, if_false,
    if_true]

theorem State.performData_takes (allowed : (rights.of (s.cls k)).data = true) (job : s.isPanel (.port p) = false)
    (some : 1 ≤ payload.length) (fits : payload.length ≤ 512) :
    State.performData k (.port p) rights payload s = s.takeData k p payload := by
  have right : ¬(payload.length = 0 || Config.maxJobData < payload.length) = true := by
    rw [Bool.or_eq_true, decide_eq_true_eq, decide_eq_true_eq]
    have most : Config.maxJobData = 512 := rfl
    omega
  simp only [State.performData, allowed, job, right, Bool.not_true, Bool.false_eq_true, if_false]

end

theorem State.performStatus_denied (denied : (rights.of (s.cls k)).status = false) :
    State.performStatus k r rights s = ⟨s, some (Answer.plain .denied r.code 0)⟩ := by
  simp [State.performStatus, denied, Performed.answered]

theorem State.isPanel_port_iff {p : PortId} : s.isPanel (.port p) = true ↔ (s.port p).profile.kind = .panel :=
  beq_iff_eq

theorem State.isPanel_of_job {p : PortId} (job : (s.port p).profile.kind = .job) : s.isPanel (.port p) = false := by
  rw [Bool.eq_false_iff, ne_eq, State.isPanel_port_iff, job]
  exact PortKind.noConfusion

/-! ## The obligation -/

/-- A command of another length than it takes (R163 check 1). -/
theorem exec_mgmt_wrong_length {cmd : MgmtCmd} {payload : List Byte}
    (handles : Handles s k ⟨tag, address, .mgmt cmd payload⟩ (cmd.names payload))
    (wrong : payload.length ≠ cmd.length) :
    exec (cmd.instr k) s = .next ((s.prepared k (cmd.names payload)).answer k ⟨tag, address, .mgmt cmd payload⟩
      (Answer.plain .badRequest 0xFF 0)) := by
  obtain ⟨perform, event⟩ := exec_mgmt s k cmd
  rw [event, State.live_running _ handles.1, State.manage_hand _ handles.2.1]
  exact congrArg _ (State.handle_answered handles (if_neg wrong))

theorem exec_waits_for_room {h : Hand} {c : Instr} {named : Option Resource} (hand : (s.link k).hand = some h)
    (full : (s.link k).roomFor named = false)
    (event : (∃ (r : Resource) (rights : Rights), named = some r ∧
      ((∃ wait : Bool, h.request = .claim r rights wait ∧ c = .claim k) ∨
        (h.request = .release r rights ∧ c = .release k) ∨
        (∃ payload : List Byte, h.request = .data r rights payload ∧ c = .data k) ∨
        (h.request = .status r rights ∧ c = .status k))) ∨
      (∃ (cmd : MgmtCmd) (payload : List Byte), h.request = .mgmt cmd payload ∧ named = cmd.names payload ∧
        c = cmd.instr k)) : exec c s = .next s := by
  obtain ⟨tag, address, request⟩ := h
  rcases event with ⟨r, rights, rfl, ⟨wait, rfl, rfl⟩ | ⟨rfl, rfl⟩ | ⟨payload, rfl, rfl⟩ | ⟨rfl, rfl⟩⟩ |
    ⟨cmd, payload, rfl, rfl, rfl⟩
  · rw [exec_claim_hand hand, State.handle_no_room _ full, State.live_self]
  · rw [exec_release_hand hand, State.handle_no_room _ full, State.live_self]
  · rw [exec_data_hand hand, State.handle_no_room _ full, State.live_self]
  · rw [exec_status_hand hand, State.handle_no_room _ full, State.live_self]
  · obtain ⟨perform, event⟩ := exec_mgmt s k cmd
    rw [event, State.manage_hand _ hand, State.handle_no_room _ full, State.live_self]

end

/-- Settles O21: each refusal of R44 by the check that makes it, and the room and the answer of a handling event. -/
theorem requestsAreCheckedInOrder : Obligations.RequestsAreCheckedInOrder := by
  refine ⟨fun s u k tag address r rights e => ?_, fun s k tag address cmd payload h e handles wrong => ?_, rfl,
    fun s k h a => ⟨State.mapLink_eq_setLink (Link.placeAnswer_eq h.tag h.address a _), rfl⟩, rfl,
    fun l => ⟨l.roomFor_none, l.roomFor_some⟩, fun s k h c named hand full event => exec_waits_for_room hand full event⟩
  · have cls : u.cls k = (s.link k).profile.cls := by
      rw [e, State.cls_prepared, State.cls]
    have panel {p : PortId} (at_ : r = .port p) (kind : (s.port p).profile.kind = .panel) : u.isPanel r = true := by
      rw [e, State.isPanel_prepared, at_]
      exact State.isPanel_port_iff.2 kind
    rw [← cls, e] at *
    refine ⟨fun wait handles => ⟨fun denied => ?_, fun p allowed at_ kind => ?_⟩,
      fun handles => ⟨fun denied => ?_, fun p allowed at_ kind => ?_⟩,
      fun payload handles => ⟨fun denied => ?_, fun z allowed at_ => ?_, fun p allowed at_ kind => ?_,
        fun p allowed at_ kind length => ?_⟩,
      fun handles denied => ?_⟩
    · exact exec_claim_answered handles (State.performClaim_denied denied)
    · exact exec_claim_answered handles (State.performClaim_panel allowed (panel at_ kind))
    · exact exec_release_answered handles (State.performRelease_denied denied)
    · exact exec_release_answered handles (State.performRelease_panel allowed (panel at_ kind))
    · exact exec_data_answered handles (State.performData_denied denied)
    · subst at_
      exact exec_data_answered handles (State.performData_zone allowed)
    · have isPanel := panel at_ kind
      subst at_
      exact exec_data_answered handles (State.performData_panel allowed isPanel)
    · subst at_
      exact exec_data_answered handles (State.performData_length allowed (State.isPanel_of_job kind) length)
    · exact exec_status_answered handles (State.performStatus_denied denied)
  · subst e
    exact exec_mgmt_wrong_length handles wrong

end Sys2Proof.Machine
end

section
/-! PROOF. CLAIM and DATA past the checks of R44 (R45, R47, R75, R77, R78, R80, R93, R126). -/

namespace Sys2Proof.Machine

/-! ## Holding and waiting -/

section
variable {s : State} {r : Resource} {k : LinkId}

theorem State.holder_iff : s.holder r = some k ↔
    ∃ h : Holding, (s.lease r = .held h ∨ s.lease r = .releasing h) ∧ h.link = k := by
  rw [State.holder_eq_some]
  cases s.lease r <;> simp [Lease.holding]

theorem State.waitsOn_iff : s.waitsOn k r = true ↔ ∃ w ∈ s.waits, w.link = k ∧ w.resource = r := by
  simp only [State.waitsOn, List.any_eq_true, Bool.and_eq_true, beq_iff_eq]

theorem State.position_absent (absent : s.waitsOn k r = false) : s.position k r = 0 := by
  have search : (s.queueOf r).findIdx? (fun w => w.link == k) = none := by
    refine List.findIdx?_eq_none_iff.2 fun w queued => beq_eq_false_iff_ne.2 fun link => ?_
    obtain ⟨waits, resource⟩ := List.mem_filter.1 queued
    exact Bool.eq_false_iff.1 absent (State.waitsOn_iff.2 ⟨w, waits, link, beq_iff_eq.1 resource⟩)
  rw [State.position, search]

theorem State.position_queued {vs ws : List Wait} {w : Wait} (queue : s.queueOf r = vs ++ w :: ws) (link : w.link = k)
    (before : ∀ v ∈ vs, v.link ≠ k) : s.position k r = vs.length + 1 := by
  have skipped : vs.findIdx? (fun v => v.link == k) = none :=
    List.findIdx?_eq_none_iff.2 fun v mem => beq_eq_false_iff_ne.2 (before v mem)
  have search : (s.queueOf r).findIdx? (fun v => v.link == k) = some vs.length := by
    rw [queue, List.findIdx?_append, skipped, List.findIdx?_cons, if_pos (beq_iff_eq.2 link)]
    simp
  rw [State.position, search]

theorem State.grantable_port_iff {p : PortId} : s.grantable (.port p) = true ↔
    (s.port p).profile.kind = .job ∧ (s.port p).state = .idle ∧ s.lease (.port p) = .free := by
  simp only [State.grantable, Bool.and_eq_true, beq_iff_eq, and_assoc]

theorem State.grantable_zone_iff {z : ZoneId} :
    s.grantable (.zone z) = true ↔ (s.zone z).enabled = true ∧ s.lease (.zone z) = .free := by
  simp only [State.grantable, Bool.and_eq_true, beq_iff_eq]

/-! ## The rows of R78 -/

variable {wait : Bool} {tag : Byte}

theorem State.claim_already (h : s.holder r = some k ∨ s.waitsOn k r = true) :
    s.claim k r wait tag = ⟨s, some (Answer.plain .already r.code 0)⟩ := by
  refine if_pos ?_
  rw [Bool.or_eq_true, decide_eq_true_eq]
  exact h

section
variable (notHolder : s.holder r ≠ some k) (noWait : s.waitsOn k r = false)
include notHolder noWait

theorem State.claim_new : s.claim k r wait tag =
    if s.outOfService r then .answered s (Answer.plain .portDown r.code 0)
    else if s.grantable r then .answered (s.grant r ⟨k, s.cls k, tag⟩) (Answer.plain .done r.code (grantDetail r))
    else if wait then s.makeWait k r tag
    else if s.isOffline r then .answered s (Answer.plain .portDown r.code 0)
    else .answered s (Answer.plain .busy r.code 0) := by
  refine if_neg ?_
  rw [Bool.or_eq_true, decide_eq_true_eq, noWait]
  simp [notHolder]

theorem State.claim_outOfService (out : s.outOfService r = true) :
    s.claim k r wait tag = ⟨s, some (Answer.plain .portDown r.code 0)⟩ := by
  rw [State.claim_new notHolder noWait, if_pos out]
  rfl

variable (inService : s.outOfService r = false)
include inService

theorem State.claim_grants (grantable : s.grantable r = true) : s.claim k r wait tag =
    ⟨s.grant r ⟨k, s.cls k, tag⟩, some (Answer.plain .done r.code (grantDetail r))⟩ := by
  rw [State.claim_new notHolder noWait, if_neg (Bool.eq_false_iff.1 inService), if_pos grantable]
  rfl

variable (taken : s.grantable r = false)
include taken

theorem State.claim_waits : s.claim k r true tag = s.makeWait k r tag := by
  rw [State.claim_new notHolder noWait, if_neg (Bool.eq_false_iff.1 inService), if_neg (Bool.eq_false_iff.1 taken),
    if_pos rfl]

theorem State.claim_offline (offline : s.isOffline r = true) :
    s.claim k r false tag = ⟨s, some (Answer.plain .portDown r.code 0)⟩ := by
  rw [State.claim_new notHolder noWait, if_neg (Bool.eq_false_iff.1 inService), if_neg (Bool.eq_false_iff.1 taken),
    if_neg Bool.false_ne_true, if_pos offline]
  rfl

theorem State.claim_busy (ready : s.isOffline r = false) :
    s.claim k r false tag = ⟨s, some (Answer.plain .busy r.code 0)⟩ := by
  rw [State.claim_new notHolder noWait, if_neg (Bool.eq_false_iff.1 inService), if_neg (Bool.eq_false_iff.1 taken),
    if_neg Bool.false_ne_true, if_neg (Bool.eq_false_iff.1 ready)]
  rfl

end

theorem State.makeWait_link_full (full : 4 ≤ (s.waits.filter (fun w => w.link == k)).length) :
    s.makeWait k r tag = ⟨s, some (Answer.plain .queueFull r.code 1)⟩ := if_pos full

theorem State.makeWait_pool_full (room : (s.waits.filter (fun w => w.link == k)).length < 4)
    (full : 24 ≤ s.waits.length) : s.makeWait k r tag = ⟨s, some (Answer.plain .queueFull r.code 0)⟩ :=
  (if_neg (Nat.not_le.2 room)).trans (if_pos full)

theorem State.makeWait_enters (room : (s.waits.filter (fun w => w.link == k)).length < 4)
    (places : s.waits.length < 24) : s.makeWait k r tag =
      ⟨s.setWaits (insertWait ⟨k, r, s.cls k, tag⟩ s.waits), some (Answer.plain .queued r.code
        (byteOf ((s.setWaits (insertWait ⟨k, r, s.cls k, tag⟩ s.waits)).position k r)))⟩ :=
  (if_neg (Nat.not_le.2 room)).trans (if_neg (Nat.not_le.2 places))

end

/-! ## The place of a new wait entry -/

/-- Within one resource a later place is a lower class (R75). -/
theorem Wait.order_lt_iff {v w : Wait} (same : v.resource = w.resource) :
    w.order < v.order ↔ v.cls.rank < w.cls.rank := by
  have rank_le (c : Class) : c.rank ≤ 2 := by cases c <;> decide
  have hv := rank_le v.cls
  have hw := rank_le w.cls
  simp only [Wait.order, same]
  omega

/-- Among the entries of its resource a new one stands behind those of its class or a higher one (R75). -/
theorem queue_insertWait (w : Wait) : ∀ ws : List Wait, ws.Pairwise (fun a b => a.order ≤ b.order) →
    (insertWait w ws).filter (fun v => v.resource == w.resource) =
      (ws.filter (fun v => v.resource == w.resource && decide (w.cls.rank ≤ v.cls.rank))) ++ [w] ++
        ws.filter (fun v => v.resource == w.resource && decide (v.cls.rank < w.cls.rank))
  | [], _ => by simp [insertWait]
  | v :: vs, sorted => by
    obtain ⟨first, rest⟩ := List.pairwise_cons.1 sorted
    unfold insertWait
    split
    · next before =>
      have lower {x : Wait} (mem : x ∈ v :: vs) (same : x.resource = w.resource) : x.cls.rank < w.cls.rank := by
        refine (Wait.order_lt_iff same).1 ?_
        rcases List.mem_cons.1 mem with rfl | tail
        · exact before
        · exact Nat.lt_of_lt_of_le before (first x tail)
      have none : (v :: vs).filter (fun x => x.resource == w.resource && decide (w.cls.rank ≤ x.cls.rank)) = [] := by
        refine List.filter_eq_nil_iff.2 fun x mem higher => ?_
        rw [Bool.and_eq_true, beq_iff_eq, decide_eq_true_eq] at higher
        exact absurd (lower mem higher.1) (Nat.not_lt.2 higher.2)
      have all : (v :: vs).filter (fun x => x.resource == w.resource && decide (x.cls.rank < w.cls.rank)) =
          (v :: vs).filter (fun x => x.resource == w.resource) := by
        refine List.filter_congr fun x mem => ?_
        by_cases same : x.resource = w.resource
        · rw [decide_eq_true (lower mem same), Bool.and_true]
        · rw [beq_eq_false_iff_ne.2 same, Bool.false_and]
      rw [none, all, List.filter_cons_of_pos (by exact beq_self_eq_true _)]
      rfl
    · next behind =>
      by_cases same : v.resource = w.resource
      · have higher : w.cls.rank ≤ v.cls.rank := Nat.not_lt.1 (mt (Wait.order_lt_iff same).2 behind)
        simp [same, higher, Nat.not_lt.2 higher, queue_insertWait w vs rest]
      · simp [same, queue_insertWait w vs rest]

/-- Settles O22: the rows of R78 one by one, and the place of an entry by induction over the pool. -/
theorem claimIsJudgedByTheTable : Obligations.ClaimIsJudgedByTheTable := by
  refine ⟨fun s r k => ⟨State.holder_iff, State.waitsOn_iff, rfl, State.position_absent, fun _ _ _ => State.position_queued⟩,
    fun s p => ⟨State.grantable_port_iff, beq_iff_eq, beq_iff_eq, rfl, State.isPanel_port_iff⟩,
    fun s z => ⟨State.grantable_zone_iff, Bool.not_eq_true' _ ▸ Iff.rfl, rfl, rfl, rfl⟩,
    fun s u k tag address r rights wait h e handles allowed job at_ => ?_,
    fun ws w sorted => ⟨pairwise_insertWait w ws sorted, queue_insertWait w ws sorted,
      fun r other => filter_insertWait_ne w (fun v => v.resource == r) (beq_eq_false_iff_ne.2 (Ne.symm other)) ws⟩⟩
  subst e
  have cls : u.cls k = (s.link k).profile.cls := by
    rw [at_, State.cls_prepared, State.cls]
  have claims {t : State} {a : Answer} (judged : u.claim k r wait tag = ⟨t, some a⟩) :
      exec (.claim k) s = .next (t.answer k ⟨tag, address, .claim r rights wait⟩ a) := by
    refine exec_claim_answered handles ?_
    rw [← at_]
    refine (State.performClaim_claims ?_ ?_).trans judged
    · rw [cls]
      exact allowed
    · rw [at_]
      exact job
  rw [← cls]
  subst at_
  refine ⟨?_, ?_, ?_, ?_, ?_, ?_, ?_, ?_⟩
  · exact fun has => claims (State.claim_already has)
  · exact fun holder queued out => claims (State.claim_outOfService holder queued out)
  · exact fun holder queued service grantable => claims (State.claim_grants holder queued service grantable)
  · rintro holder queued service taken rfl full
    exact claims ((State.claim_waits (s := s.prepared k (some r)) holder queued service taken).trans
      (State.makeWait_link_full full))
  · rintro holder queued service taken rfl room full
    exact claims ((State.claim_waits (s := s.prepared k (some r)) holder queued service taken).trans
      (State.makeWait_pool_full room full))
  · rintro t holder queued service taken rfl room places rfl
    exact claims ((State.claim_waits (s := s.prepared k (some r)) holder queued service taken).trans
      (State.makeWait_enters room places))
  · rintro holder queued service taken rfl offline
    exact claims (State.claim_offline holder queued service taken offline)
  · rintro holder queued service taken rfl ready
    exact claims (State.claim_busy holder queued service taken ready)

/-! ## DATA -/

section
variable {s : State} {k : LinkId} {p : PortId} {payload : List Byte} {held : Holding}

theorem State.takeData_notHolder (notHolder : s.holder (.port p) ≠ some k) :
    s.takeData k p payload = ⟨s, some (Answer.plain .notHolder (Resource.port p).code 0)⟩ := by
  unfold State.takeData
  split
  · rfl
  · next h lease => exact if_neg fun link => notHolder (State.holder_iff.2 ⟨h, .inr lease, link⟩)
  · next h lease => exact if_neg fun link => notHolder (State.holder_iff.2 ⟨h, .inl lease, link⟩)

theorem State.takeData_releasing (lease : s.lease (.port p) = .releasing held) (link : held.link = k) :
    s.takeData k p payload = ⟨s, some (Answer.plain .releasing (Resource.port p).code 0)⟩ := by
  rw [State.takeData, lease]
  exact if_pos link

theorem State.takeData_held (lease : s.lease (.port p) = .held held) (link : held.link = k) :
    s.takeData k p payload = if (s.port p).credit = 0 then
      .answered s (Answer.plain .overCredit (Resource.port p).code 0)
    else ⟨s.mapPort p (Port.stage payload), none⟩ := by
  rw [State.takeData, lease]
  exact if_pos link

theorem State.handle_unanswered {t : State} {h : Hand} {r : Option Resource} {perform : State → Performed}
    (handles : Handles s k h r) (performed : perform (s.prepared k r) = ⟨t, none⟩) : s.handle k h r perform = t := by
  obtain ⟨-, -, noRestart, room⟩ := handles
  simp [State.handle, noRestart, room, performed]

end

theorem Port.stage_b0 {x : Port} (payload : List Byte) (free : x.o0 = none) : x.stage payload = Port.judge
    { x with o0 := some ⟨payload, 0⟩, fillOrder := x.fillOrder ++ [.b0], credit := x.credit - 1 } := by
  simp [Port.stage, free, Port.setOutb]

theorem Port.stage_b1 {x : Port} (payload : List Byte) (full : x.o0 ≠ none) : x.stage payload = Port.judge
    { x with o1 := some ⟨payload, 0⟩, fillOrder := x.fillOrder ++ [.b1], credit := x.credit - 1 } := by
  have full' : x.o0.isNone = false := by
    rw [Bool.eq_false_iff, ne_eq, Option.isNone_iff_eq_none]
    exact full
  simp [Port.stage, full', Port.setOutb]

/-! ## What a judgement leaves -/

section
variable (x : Port) (want : Bool)

/-- A judgement of the pause changes the pause and what expresses it. -/
theorem Port.setPause_eq : ∃ (paused hold : Bool) (slot : Option FlowCode),
    x.setPause want = { x with paused := paused, hold := hold, slot := slot } := by
  unfold Port.setPause
  split
  · exact ⟨x.paused, x.hold, x.slot, rfl⟩
  · split
    · exact ⟨want, x.hold, x.slot, rfl⟩
    · exact ⟨want, want, x.slot, rfl⟩
    · exact ⟨want, x.hold, _, rfl⟩

/-- The judgements change the pause, what expresses it, and two timers. -/
theorem Port.judge_eq : ∃ (paused hold : Bool) (slot : Option FlowCode) (idle stall : Option Nat),
    x.judge = { x with paused := paused, hold := hold, slot := slot, idleTimer := idle, stallTimer := stall } := by
  obtain ⟨paused, hold, slot, same⟩ := x.setPause_eq x.wantsPause
  refine ⟨paused, hold, slot, x.judge.idleTimer, x.judge.stallTimer, ?_⟩
  rw [Port.judge, Port.judgePause, same]
  rfl

end

section
variable (x : Port)

@[simp] theorem Port.state_judge : x.judge.state = x.state := by obtain ⟨_, _, _, _, _, e⟩ := x.judge_eq; rw [e]
@[simp] theorem Port.select_judge : x.judge.select = x.select := by obtain ⟨_, _, _, _, _, e⟩ := x.judge_eq; rw [e]
@[simp] theorem Port.profile_judge : x.judge.profile = x.profile := by obtain ⟨_, _, _, _, _, e⟩ := x.judge_eq; rw [e]
@[simp] theorem Port.credit_judge : x.judge.credit = x.credit := by obtain ⟨_, _, _, _, _, e⟩ := x.judge_eq; rw [e]
@[simp] theorem Port.i0_judge : x.judge.i0 = x.i0 := by obtain ⟨_, _, _, _, _, e⟩ := x.judge_eq; rw [e]
@[simp] theorem Port.i1_judge : x.judge.i1 = x.i1 := by obtain ⟨_, _, _, _, _, e⟩ := x.judge_eq; rw [e]
@[simp] theorem Port.o0_judge : x.judge.o0 = x.o0 := by obtain ⟨_, _, _, _, _, e⟩ := x.judge_eq; rw [e]
@[simp] theorem Port.o1_judge : x.judge.o1 = x.o1 := by obtain ⟨_, _, _, _, _, e⟩ := x.judge_eq; rw [e]
@[simp] theorem Port.fillOrder_judge : x.judge.fillOrder = x.fillOrder := by
  obtain ⟨_, _, _, _, _, e⟩ := x.judge_eq; rw [e]
@[simp] theorem Port.counters_judge : x.judge.counters = x.counters := by
  obtain ⟨_, _, _, _, _, e⟩ := x.judge_eq; rw [e]
@[simp] theorem Port.frameSize_judge : x.judge.frameSize = x.frameSize := by
  obtain ⟨_, _, _, _, _, e⟩ := x.judge_eq; rw [e]
@[simp] theorem Port.remembered_judge : x.judge.remembered = x.remembered := by
  obtain ⟨_, _, _, _, _, e⟩ := x.judge_eq; rw [e]

/-- A job with a buffer to send is not at rest (R94). -/
theorem Port.idleTimer_judge_of_staged (staged : x.fillOrder ≠ []) : x.judge.idleTimer = none := by
  obtain ⟨_, _, _, e⟩ := x.setPause_eq x.wantsPause
  have atRest : (x.setPause x.wantsPause).atRest = false := by
    rw [e]
    simp [Port.atRest, staged]
  show (x.setPause x.wantsPause).judgeRest.judgeStall.idleTimer = none
  simp only [Port.judgeStall, Port.judgeRest, atRest, Bool.false_eq_true, if_false]

end

/-- Settles O25: sender, then credit, and the buffer staged. -/
theorem dataIsStagedAgainstCredit : Obligations.DataIsStagedAgainstCredit := by
  refine ⟨fun s u k tag address p rights payload h e handles allowed kind some fits at_ => ?_,
    fun x payload => ⟨fun free => ?_, fun full => ?_, ?_⟩,
    fun x payload => ⟨Port.stage_b0 payload, Port.stage_b1 payload⟩⟩
  · subst e at_
    have takes : State.performData k (.port p) rights payload (s.prepared k (.some (.port p))) =
        (s.prepared k (.some (.port p))).takeData k p payload := by
      refine State.performData_takes ?_ (State.isPanel_of_job kind) some fits
      rw [State.cls_prepared]
      exact allowed
    refine ⟨fun notHolder => ?_, fun held lease link => ?_, fun held lease link credit => ?_,
      fun held lease link credit => ?_⟩
    · exact exec_data_answered handles (takes.trans (State.takeData_notHolder notHolder))
    · exact exec_data_answered handles (takes.trans (State.takeData_releasing lease link))
    · exact exec_data_answered handles (takes.trans
        ((State.takeData_held (s := s.prepared k (.some (.port p))) lease link).trans (if_pos credit)))
    · rw [exec_data_hand handles.2.1, State.live_running _ handles.1]
      exact congrArg _ (State.handle_unanswered handles (takes.trans
        ((State.takeData_held (s := s.prepared k (.some (.port p))) lease link).trans
          (if_neg (Nat.pos_iff_ne_zero.1 credit)))))
  · rw [Port.stage_b0 payload free]
    simp
  · rw [Port.stage_b1 payload full]
    simp
  · by_cases free : x.o0 = none
    · rw [Port.stage_b0 payload free]
      simp [Port.idleTimer_judge_of_staged]
    · rw [Port.stage_b1 payload free]
      simp [Port.idleTimer_judge_of_staged]

end Sys2Proof.Machine
end

section
/-! PROOF. The judgements of a port: the inbound pause (R121, R138), the rest (R94) and the stall (R120). -/

namespace Sys2Proof.Machine

/-! ## The inbound pause -/

section
variable {x : Port} {want : Bool}

theorem InBuf.isFree_iff (i : InBuf) : i.isFree = true ↔ i = .free := by cases i <;> simp [InBuf.isFree]

theorem Port.wantsPause_iff : x.wantsPause = true ↔ x.state.isJob = true ∧ (x.filling = none ∨
    ∃ (b : BufId) (bytes : List Byte), x.filling = some (b, bytes) ∧
      x.profile.pauseMark.toNat ≤ bytes.length ∧ x.inb b.other ≠ .free) := by
  rw [Port.wantsPause, Bool.and_eq_true]
  refine and_congr_right fun _ => ?_
  cases filling : x.filling with
  | none => simp
  | some found =>
    obtain ⟨b, bytes⟩ := found
    simp only [Bool.and_eq_true, decide_eq_true_eq, Bool.not_eq_true', Bool.eq_false_iff, ne_eq, InBuf.isFree_iff,
      reduceCtorEq, false_or, Option.some.injEq, Prod.mk.injEq]
    constructor
    · exact fun held => ⟨b, bytes, ⟨rfl, rfl⟩, held⟩
    · rintro ⟨_, _, ⟨rfl, rfl⟩, held⟩
      exact held

@[simp] theorem Port.paused_setPause : (x.setPause want).paused = want := by
  unfold Port.setPause
  split
  · next agrees => exact agrees
  · split <;> rfl

theorem Port.setPause_same (agrees : x.paused = want) : x.setPause want = x := if_pos agrees

theorem Port.setPause_none (differs : x.paused ≠ want) (flow : x.profile.flow = .none) :
    x.setPause want = { x with paused := want } := by
  rw [Port.setPause, if_neg differs, flow]

theorem Port.setPause_lines (differs : x.paused ≠ want) (flow : x.profile.flow = .lines) :
    x.setPause want = { x with paused := want, hold := want } := by
  rw [Port.setPause, if_neg differs, flow]

theorem Port.setPause_codes (differs : x.paused ≠ want) (flow : x.profile.flow = .codes) : x.setPause want =
    { x with paused := want, slot := placeCode x.slot (if want then .pause else .resume) } := by
  rw [Port.setPause, if_neg differs, flow]

theorem placeCode_free (c : FlowCode) : placeCode none c = some c := rfl

/-- The opposite code is withdrawn (R121). -/
theorem placeCode_opposite (want : Bool) :
    placeCode (some (if want then FlowCode.resume else .pause)) (if want then .pause else .resume) = none := by
  cases want <;> rfl

end

/-- Settles O41: the branches of the judgement by flow and code slot. -/
theorem inboundPauseIsExpressed : Obligations.InboundPauseIsExpressed := by
  refine fun x => ⟨Port.wantsPause_iff, Port.paused_setPause, fun agrees => Port.setPause_same agrees.symm,
    fun differs flow => Port.setPause_none differs.symm flow, fun differs flow => Port.setPause_lines differs.symm flow,
    fun differs flow slot => ?_, fun differs flow slot => ?_⟩
  · rw [Port.judgePause, Port.setPause_codes differs.symm flow, slot, placeCode_free]
  · rw [Port.judgePause, Port.setPause_codes differs.symm flow, slot, placeCode_opposite]

/-! ## Rest and stall -/

section
variable {x : Port}

theorem InBuf.holdsBytes_eq_false (i : InBuf) : i.holdsBytes = false ↔ i = .free ∨ i = .filling [] := by
  cases i <;> simp [InBuf.holdsBytes]

theorem BufId.forall_iff (P : BufId → Prop) : (∀ b : BufId, P b) ↔ P .b0 ∧ P .b1 :=
  ⟨fun h => ⟨h .b0, h .b1⟩, fun h b => by cases b; exacts [h.1, h.2]⟩

theorem Port.atRest_iff : x.atRest = true ↔ x.state = .opened ∧ x.fillOrder = [] ∧ x.profile.idleLimit ≠ 0 ∧
    ∀ b : BufId, x.inb b = .free ∨ x.inb b = .filling [] := by
  simp only [Port.atRest, Bool.and_eq_true, Bool.not_eq_true', beq_iff_eq, bne_iff_ne, List.isEmpty_iff,
    InBuf.holdsBytes_eq_false, BufId.forall_iff, Port.inb]
  tauto

theorem PortTx.isJob_eq_false (tx : PortTx) : tx.isJob = false ↔ ∀ (b : BufId) (d : Byte), tx ≠ .job b d := by
  cases tx <;> simp [PortTx.isJob]

theorem Port.permits_eq_false : x.permits = false ↔
    (x.profile.flow = .lines ∧ x.busyPin = true) ∨ (x.profile.flow = .codes ∧ x.flow = .stopped) := by
  rw [Port.permits]
  cases x.profile.flow <;> cases x.flow <;> simp

theorem Port.outHeld_iff : x.outHeld = true ↔ (x.state = .opened ∨ x.state = .closing) ∧ x.fillOrder ≠ [] ∧
    (∀ (b : BufId) (d : Byte), x.tx ≠ .job b d) ∧
    ((x.profile.flow = .lines ∧ x.busyPin = true) ∨ (x.profile.flow = .codes ∧ x.flow = .stopped)) := by
  simp only [Port.outHeld, Bool.and_eq_true, Bool.or_eq_true, Bool.not_eq_true', beq_iff_eq, PortTx.isJob_eq_false,
    Port.permits_eq_false, List.isEmpty_eq_false_iff, ne_eq, and_assoc]

/-- A timer that runs is left running. -/
theorem getD_of_running {t : Option Nat} (running : t ≠ none) (limit : Nat) : some (t.getD limit) = t := by
  obtain ⟨n, rfl⟩ := Option.ne_none_iff_exists'.1 running
  rfl

theorem Port.judgeRest_of_not (h : x.atRest = false) : x.judgeRest = { x with idleTimer := none } := by
  rw [Port.judgeRest, h]
  rfl

theorem Port.judgeRest_of_rest (h : x.atRest = true) :
    x.judgeRest = { x with idleTimer := some (x.idleTimer.getD (x.profile.idleLimit.toNat * 1000)) } := by
  rw [Port.judgeRest, if_pos h]

theorem Port.judgeStall_of_not (h : x.outHeld = false ∨ x.profile.stallLimit = 0) :
    x.judgeStall = { x with stallTimer := none } := by
  have off : (x.outHeld && x.profile.stallLimit != 0) = false := by
    rcases h with free | limit
    · rw [free, Bool.false_and]
    · rw [limit, bne_self_eq_false, Bool.and_false]
  rw [Port.judgeStall, off]
  rfl

theorem Port.judgeStall_of_held (h : x.outHeld = true) (limit : x.profile.stallLimit ≠ 0) :
    x.judgeStall = { x with stallTimer := some (x.stallTimer.getD (x.profile.stallLimit.toNat * 1000)) } := by
  rw [Port.judgeStall, h, bne_iff_ne.2 limit]
  rfl

end

/-- Settles O42: the two conditions, and each timer by its condition and whether it runs. -/
theorem idleAndStallTimersFollow : Obligations.IdleAndStallTimersFollow := by
  refine fun x => ⟨Port.atRest_iff, Port.judgeRest_of_not, fun rest absent => ?_, fun rest running => ?_,
    Port.outHeld_iff, Port.judgeStall_of_not, fun held limit absent => ?_, fun held limit running => ?_, rfl⟩
  · rw [Port.judgeRest_of_rest rest, absent]
    rfl
  · rw [Port.judgeRest_of_rest rest, getD_of_running running]
  · rw [Port.judgeStall_of_held held limit, absent]
    rfl
  · rw [Port.judgeStall_of_held held limit, getD_of_running running]

/-! ## What the judgements say after a change -/

section
variable {x : Port}

@[simp] theorem Port.paused_judge : x.judge.paused = x.wantsPause := Port.paused_setPause (x := x)

theorem Port.atRest_setPause (want : Bool) : (x.setPause want).atRest = x.atRest := by
  obtain ⟨_, _, _, e⟩ := x.setPause_eq want
  rw [e]
  rfl

/-- The idle timer starts as a job comes to rest (R94). -/
theorem Port.idleTimer_judge_starts (rest : x.atRest = true) (absent : x.idleTimer = none) :
    x.judge.idleTimer = some (x.profile.idleLimit.toNat * 1000) := by
  obtain ⟨_, _, _, e⟩ := x.setPause_eq x.wantsPause
  have same : x.judgePause.atRest = true := (Port.atRest_setPause _).trans rest
  have timer : x.judgePause.judgeRest.idleTimer = some (x.profile.idleLimit.toNat * 1000) := by
    rw [Port.judgeRest_of_rest same, Port.judgePause, e, absent]
    rfl
  exact timer

end

end Sys2Proof.Machine
end

section
/-! PROOF. Grants: a port opens for its holder (R79, R110, R125, R132, R133), and the head of a queue is told (R77, R82). -/

namespace Sys2Proof.Machine

/-! ## Fields that a change of port state leaves -/

section
variable (s : State)

@[simp] theorem State.zones_enterNotice (k : LinkId) (n : Notice) : (s.enterNotice k n).zones = s.zones := by
  unfold State.enterNotice
  split <;> rfl

@[simp] theorem State.windows_enterNotice (k : LinkId) (n : Notice) : (s.enterNotice k n).windows = s.windows := by
  unfold State.enterNotice
  split <;> rfl

@[simp] theorem State.zones_setPortState (p : PortId) (st : PortState) : (s.setPortState p st).zones = s.zones := by
  unfold State.setPortState
  dsimp only
  split <;> simp

@[simp] theorem State.windows_setPortState (p : PortId) (st : PortState) :
    (s.setPortState p st).windows = s.windows := by
  unfold State.setPortState
  dsimp only
  split <;> simp

end

/-! ## The first filling buffer -/

section
variable {x : Port}

/-- Only the two buffers change. -/
theorem Port.startFilling_eq (x : Port) : ∃ i0 i1 : InBuf, x.startFilling = { x with i0 := i0, i1 := i1 } := by
  unfold Port.startFilling
  split
  · exact ⟨x.i0, x.i1, rfl⟩
  · split
    · exact ⟨_, x.i1, rfl⟩
    · split
      · exact ⟨x.i0, _, rfl⟩
      · exact ⟨x.i0, x.i1, rfl⟩

theorem Port.startFilling_b0 (free : x.i0 = .free) (other : ∀ bytes, x.i1 ≠ .filling bytes) :
    x.startFilling = { x with i0 := .filling [] } := by
  have none : x.filling = none := Port.filling_eq_none.2 ((BufId.forall_iff _).2 ⟨fun _ => by
    rw [Port.inb, free]
    exact InBuf.noConfusion, other⟩)
  simp [Port.startFilling, none, free, InBuf.isFree]

theorem Port.startFilling_b1 {bytes : List Byte} {k : LinkId} {j : Bool} (handed : x.i0 = .handed bytes k j)
    (free : x.i1 = .free) : x.startFilling = { x with i1 := .filling [] } := by
  have none : x.filling = none := by rw [Port.filling, handed, free]
  simp [Port.startFilling, none, handed, free, InBuf.isFree]

theorem Port.filling_of_handed {bytes more : List Byte} {k l : LinkId} {i j : Bool} (first : x.i0 = .handed bytes k i)
    (second : x.i1 = .handed more l j) : x.filling = none := by
  rw [Port.filling, first, second]

theorem Port.startFilling_of_handed {bytes more : List Byte} {k l : LinkId} {i j : Bool}
    (first : x.i0 = .handed bytes k i) (second : x.i1 = .handed more l j) : x.startFilling = x := by
  simp [Port.startFilling, Port.filling_of_handed first second, first, second, InBuf.isFree]

end

/-! ## The port opened -/

/-- A port as the grant finds it, before a buffer is made filling (R79, R110, R125, R133). -/
def Port.granted (size : Nat) (x : Port) : Port :=
  { x with state := .opened, select := true, credit := 2, frameSize := some size }

/-- The frame size of a job at port p held by link k (R133). -/
def State.jobSize (s : State) (p : PortId) (k : LinkId) : Nat :=
  min (s.port p).profile.frameSize.toNat (s.link k).profile.maxInbound.toNat

section
variable {s t : State} {p : PortId} {h : Holding}

theorem State.grant_port_eq : s.grant (.port p) h = ((s.setLease (.port p) (.held h)).setPortState p .opened).setPort p
    (((s.port p).granted (s.jobSize p h.link)).startFilling.judge) := by
  simp only [State.grant, State.openPort, State.mapPort, State.port_setPortState_self, State.port_setLease]
  rfl

theorem State.port_grant : (s.grant (.port p) h).port p =
    ((s.port p).granted (s.jobSize p h.link)).startFilling.judge := by
  rw [State.grant_port_eq, State.port_setPort_self]

/-- With no free buffer the pause is wanted as the job begins (R138). -/
theorem Port.wantsPause_granted {x : Port} {size : Nat} {bytes more : List Byte} {k l : LinkId} {i j : Bool}
    (first : x.i0 = .handed bytes k i) (second : x.i1 = .handed more l j) : (x.granted size).wantsPause = true :=
  Port.wantsPause_iff.2 ⟨rfl, .inl (Port.filling_of_handed first second)⟩

theorem Port.hold_judge {x : Port} : x.judge.hold = (x.setPause x.wantsPause).hold := rfl

theorem Port.slot_judge {x : Port} : x.judge.slot = (x.setPause x.wantsPause).slot := rfl

/-- A grant in the situation of R121 and R138: both buffers are still handed by an earlier job. -/
theorem Port.pause_granted {x : Port} {size : Nat} {bytes more : List Byte} {k l : LinkId} {i j : Bool}
    (first : x.i0 = .handed bytes k i) (second : x.i1 = .handed more l j) :
    (x.granted size).judge.paused = true ∧
    (x.paused = false → x.profile.flow = .lines → (x.granted size).judge.hold = true) ∧
    (x.paused = false → x.profile.flow = .codes → x.slot = none → (x.granted size).judge.slot = some .pause) ∧
    (x.paused = false → x.profile.flow = .codes → x.slot = some .resume → (x.granted size).judge.slot = none) ∧
    (x.profile.flow = .none → (x.granted size).judge.hold = x.hold ∧ (x.granted size).judge.slot = x.slot) := by
  have wants : (x.granted size).wantsPause = true := Port.wantsPause_granted first second
  have differs (running : x.paused = false) : (x.granted size).paused ≠ true := Bool.eq_false_iff.1 running
  simp only [Port.paused_judge, Port.hold_judge, Port.slot_judge, wants, true_and]
  refine ⟨fun running flow => ?_, fun running flow slot => ?_, fun running flow slot => ?_, fun flow => ?_⟩
  · rw [Port.setPause_lines (differs running) flow]
  · rw [Port.setPause_codes (differs running) flow]
    exact congrArg (placeCode · FlowCode.pause) slot
  · rw [Port.setPause_codes (differs running) flow]
    exact congrArg (placeCode · FlowCode.pause) slot
  · by_cases paused : (x.granted size).paused = true
    · rw [Port.setPause_same paused]
      exact ⟨rfl, rfl⟩
    · rw [Port.setPause_none paused flow]
      exact ⟨rfl, rfl⟩

/-- A grant at rest starts the idle timer (R94, R110). -/
theorem Port.idleTimer_granted {x : Port} {size : Nat} (first : x.i0 = .free) (second : x.i1 = .free)
    (drained : x.fillOrder = []) (absent : x.idleTimer = none) (limit : x.profile.idleLimit ≠ 0) :
    (x.granted size).startFilling.judge.idleTimer = some (x.profile.idleLimit.toNat * 1000) := by
  have fills : (x.granted size).startFilling = { x.granted size with i0 := .filling [] } :=
    Port.startFilling_b0 first fun bytes filling => by
      rw [show (x.granted size).i1 = .free from second] at filling
      cases filling
  rw [fills]
  refine Port.idleTimer_judge_starts (Port.atRest_iff.2 ⟨rfl, drained, limit, ?_⟩) absent
  exact (BufId.forall_iff _).2 ⟨.inr rfl, .inl second⟩

/-! ## The head of a queue -/

theorem State.grantHead_none {r : Resource} (none : s.grantable r = false ∨ s.queueOf r = []) : s.grantHead r = s := by
  unfold State.grantHead
  split
  · next grantable =>
    rcases none with taken | empty
    · rw [taken] at grantable
      cases grantable
    · rw [empty]
  · rfl

theorem State.grantHead_head {r : Resource} {w : Wait} {ws : List Wait} (grantable : s.grantable r = true)
    (queue : s.queueOf r = w :: ws) : s.grantHead r =
      ((s.setWaits (s.waits.filter (fun v => !(v.link == w.link && v.resource == r)))).grant r
        ⟨w.link, w.cls, w.tag⟩).enterNotice w.link ⟨.granted, r, w.tag⟩ := by
  rw [State.grantHead, if_pos grantable, queue]
  rfl

end

/-- Settles O23: the port after the grant, the rest of the part, and the head of the queue. -/
theorem grantOpensThePort : Obligations.GrantOpensThePort := by
  refine ⟨fun s p h => ?_, fun s z h => rfl, fun s t p h x at_ x_ => ?_,
    fun s r => ⟨State.grantHead_none, fun w ws => State.grantHead_head⟩⟩
  · obtain ⟨i0, i1, fills⟩ := ((s.port p).granted (s.jobSize p h.link)).startFilling_eq
    refine ⟨s.lease_grant _ h, ?_, ?_, ?_, ?_, ?_, ?_, ?_, ?_, ?_, ?_, ?_⟩
    · rw [State.port_grant, Port.state_judge, fills]
      rfl
    · rw [State.port_grant, Port.select_judge, fills]
      rfl
    · rw [State.port_grant, Port.credit_judge, fills]
      rfl
    · rw [State.port_grant, Port.frameSize_judge, fills]
      rfl
    · intro free other
      rw [State.port_grant, Port.i0_judge,
        Port.startFilling_b0 (x := (s.port p).granted (s.jobSize p h.link)) free other]
    · intro first second drained absent limit
      rw [State.port_grant, Port.idleTimer_granted first second drained absent limit]
    · intro q ne
      simp [State.grant, State.openPort, State.port_mapPort, State.port_setPortState, ne]
    · intro r ne
      simp [State.grant, State.openPort, State.lease_setLease_ne, ne]
    · simp [State.grant, State.openPort]
    · simp only [State.grant, State.openPort, State.zones_mapPort, State.zones_setPortState]
      rfl
    · simp only [State.grant, State.openPort, State.windows_mapPort, State.windows_setPortState]
      rfl
  · have granted : x = (s.port p).granted (s.jobSize p h.link) := by
      rw [x_, at_, State.port_setPortState_self, State.port_setLease]
      rfl
    have opens {y : Port} (fills : x.startFilling = y) : s.grant (.port p) h = t.setPort p y.judge := by
      rw [State.grant_port_eq, ← granted, fills, at_]
    refine ⟨fun free other => opens ?_, fun bytes k j handed free => opens ?_,
      fun bytes more k l i j first second => ⟨opens ?_, ?_, ?_⟩⟩
    · rw [granted]
      exact Port.startFilling_b0 free other
    · rw [granted]
      exact Port.startFilling_b1 handed free
    · rw [granted]
      exact Port.startFilling_of_handed first second
    · have same := Port.startFilling_of_handed (x := (s.port p).granted (s.jobSize p h.link)) first second
      rw [State.port_grant, same]
      refine Port.filling_of_handed (bytes := bytes) (more := more) (k := k) (l := l) (i := i) (j := j) ?_ ?_
      · rw [Port.i0_judge]
        exact first
      · rw [Port.i1_judge]
        exact second
    · have same := Port.startFilling_of_handed (x := (s.port p).granted (s.jobSize p h.link)) first second
      rw [State.port_grant, same]
      exact Port.pause_granted first second

end Sys2Proof.Machine
end

section
/-! PROOF. RELEASE past the checks of R44 (R46, R86 to R91), the orderly end of a job (R140), and SETTLING (R116). -/

namespace Sys2Proof.Machine

/-! ## The rows of R86 -/

section
variable {s : State} {k : LinkId} {r : Resource} {held : Holding}

theorem State.release_releasing (lease : s.lease r = .releasing held) (link : held.link = k) :
    s.release k r = ⟨s, some (Answer.plain .already r.code 0)⟩ := by
  rw [State.release, lease]
  exact if_pos link

theorem State.release_zone {z : ZoneId} (lease : s.lease (.zone z) = .held held) (link : held.link = k) :
    s.release k (.zone z) = ⟨s.releaseZone k z, some (Answer.plain .done (Resource.zone z).code 0)⟩ := by
  rw [State.release, lease]
  exact if_pos link

theorem State.release_port {p : PortId} (lease : s.lease (.port p) = .held held) (link : held.link = k) :
    s.release k (.port p) = s.releasePort p held := by
  rw [State.release, lease]
  exact if_pos link

theorem State.release_notHolder (notHolder : s.holder r ≠ some k) : s.release k r = s.releaseWait k r := by
  unfold State.release
  split
  · next h lease => exact if_neg fun link => notHolder (State.holder_iff.2 ⟨h, .inr lease, link⟩)
  · next h lease => exact if_neg fun link => notHolder (State.holder_iff.2 ⟨h, .inl lease, link⟩)
  · rfl

theorem State.releasePort_suspended {p : PortId} (suspended : (s.port p).state = .suspended) : s.releasePort p held =
    ⟨((s.cut p).setLease (.port p) .free).setPortState p .offline,
      some (Answer.plain .done (Resource.port p).code 1)⟩ := if_pos suspended

theorem State.releasePort_drained {p : PortId} (running : (s.port p).state ≠ .suspended)
    (drained : (s.port p).fillOrder = []) :
    s.releasePort p held = ⟨s.endJob p, some (Answer.plain .done (Resource.port p).code 0)⟩ :=
  (if_neg running).trans (if_pos (List.isEmpty_iff.2 drained))

theorem State.releasePort_closes {p : PortId} (running : (s.port p).state ≠ .suspended)
    (staged : (s.port p).fillOrder ≠ []) : s.releasePort p held =
      ⟨((s.setLease (.port p) (.releasing held)).setPortState p .closing).mapPort p Port.judge,
        some (Answer.plain .closing (Resource.port p).code 0)⟩ :=
  (if_neg running).trans (if_neg (mt List.isEmpty_iff.1 staged))

theorem State.releaseWait_waits (waits : s.waitsOn k r = true) :
    s.releaseWait k r = ⟨s.removeWait k r, some (Answer.plain .done r.code 0)⟩ := if_pos waits

theorem State.releaseWait_none (none : s.waitsOn k r = false) :
    s.releaseWait k r = ⟨s, some (Answer.plain .notHolder r.code 0)⟩ := if_neg (Bool.eq_false_iff.1 none)

end

/-! ## The port after its job -/

section
variable (x : Port)

/-- What closing a job leaves and what it clears (R115, R121, R140, R141). -/
theorem Port.closeJob_eq : ∃ (hold : Bool) (slot : Option FlowCode), x.closeJob =
    { x with
      remembered := none, idleTimer := none, graceTimer := none, stallTimer := none, gatherTimer := none,
      o0 := none, o1 := none, fillOrder := [], credit := 0, frameSize := none,
      i0 := x.i0.leaveJob, i1 := x.i1.leaveJob, paused := false, hold := hold, slot := slot } := by
  have released : x.closeJob.paused = false := Port.paused_setPause
  obtain ⟨paused, hold, slot, e⟩ := Port.setPause_eq
    { x with
      remembered := none, idleTimer := none, graceTimer := none, stallTimer := none, gatherTimer := none,
      o0 := none, o1 := none, fillOrder := [], credit := 0, frameSize := none,
      i0 := x.i0.leaveJob, i1 := x.i1.leaveJob } false
  have closed := released
  rw [Port.closeJob, e] at closed
  dsimp only at closed
  refine ⟨hold, slot, ?_⟩
  rw [Port.closeJob, e, closed]

theorem Port.inb_closeJob (b : BufId) : x.closeJob.inb b = (x.inb b).leaveJob := by
  obtain ⟨hold, slot, e⟩ := x.closeJob_eq
  rw [e]
  cases b <;> rfl

end

section
variable {s : State} {p : PortId}

/-- Handing the last buffer changes the buffers, and may clear the gather timer (R136). -/
theorem State.port_handLast (s : State) (p : PortId) : ∃ (i0 i1 : InBuf) (gather : Option Nat),
    (s.handLast p).port p = { s.port p with i0 := i0, i1 := i1, gatherTimer := gather } := by
  have freed (b : BufId) : ∃ (i0 i1 : InBuf) (gather : Option Nat),
      (s.mapPort p (fun x => x.setInb b .free)).port p =
        { s.port p with i0 := i0, i1 := i1, gatherTimer := gather } := by
    rw [State.port_mapPort_self]
    cases b <;> exact ⟨_, _, _, rfl⟩
  unfold State.handLast
  split
  · next b bytes k _ _ =>
    split
    · exact freed b
    · rw [State.handTo, State.port_mapPort_self, State.port_of_mapLink]
      cases b <;> exact ⟨_, _, _, rfl⟩
  · next b bytes _ _ => exact freed b
  · exact ⟨_, _, _, rfl⟩

theorem State.handLast_hands {b : BufId} {bytes : List Byte} {k : LinkId} (filling : (s.port p).filling = some (b, bytes))
    (holder : s.holder (.port p) = some k) (some : bytes ≠ []) : s.handLast p = s.handTo p b bytes k := by
  rw [State.handLast, filling, holder]
  exact if_neg (mt List.isEmpty_iff.1 some)

theorem State.handLast_empty {b : BufId} (filling : (s.port p).filling = some (b, [])) :
    s.handLast p = s.mapPort p (fun x => x.setInb b .free) := by
  rw [State.handLast, filling]
  cases s.holder (.port p) <;> rfl

/-- The part as a job ends in order, before its port settles (R88, R90, R140). -/
def State.jobEnded (s : State) (p : PortId) : State :=
  ((s.handLast p).mapPort p Port.completeJob).setLease (.port p) .free

theorem State.endJob_eq_settling (s : State) (p : PortId) : s.endJob p = (s.jobEnded p).enterSettling p :=
  s.endJob_eq p

theorem State.port_jobEnded (s : State) (p : PortId) :
    (s.jobEnded p).port p = ((s.handLast p).port p).completeJob := by
  rw [State.jobEnded, State.port_setLease, State.port_mapPort_self]

theorem State.lease_jobEnded_self (s : State) (p : PortId) : (s.jobEnded p).lease (.port p) = .free := by
  rw [State.jobEnded, State.lease_setLease_self]

theorem State.lease_handLast (s : State) (p : PortId) (r : Resource) : (s.handLast p).lease r = s.lease r := by
  unfold State.handLast
  split
  · split
    · rw [State.lease_mapPort]
    · rw [State.handTo, State.lease_mapPort, State.lease_mapLink]
  · rw [State.lease_mapPort]
  · rfl

theorem State.waits_handLast (s : State) (p : PortId) : (s.handLast p).waits = s.waits := by
  unfold State.handLast
  split
  · split <;> rfl
  · rfl
  · rfl

theorem State.lease_jobEnded_ne (s : State) (p : PortId) {r : Resource} (ne : r ≠ .port p) :
    (s.jobEnded p).lease r = s.lease r := by
  rw [State.jobEnded, State.lease_setLease_ne _ _ ne, State.lease_mapPort, State.lease_handLast]

theorem State.waits_jobEnded (s : State) (p : PortId) : (s.jobEnded p).waits = s.waits := s.waits_handLast p

/-- A port whose job has ended keeps its state and profile until it settles (R140). -/
structure Port.Ended (x y : Port) : Prop where
  profile : y.profile = x.profile
  state : y.state = x.state
  credit : y.credit = 0
  o0 : y.o0 = none
  o1 : y.o1 = none
  idleTimer : y.idleTimer = none
  gatherTimer : y.gatherTimer = none
  frameSize : y.frameSize = none
  paused : y.paused = false
  counters : y.counters = { x.counters with jobsCompleted := bump x.counters.jobsCompleted }

theorem Port.ended_completeJob {x y : Port} (profile : y.profile = x.profile) (state : y.state = x.state)
    (counters : y.counters = x.counters) : x.Ended y.completeJob := by
  obtain ⟨hold, slot, e⟩ := y.closeJob_eq
  rw [Port.completeJob, e]
  exact ⟨profile, state, rfl, rfl, rfl, rfl, rfl, rfl, rfl, by rw [← counters]; rfl⟩

theorem State.ended_jobEnded (s : State) (p : PortId) : (s.port p).Ended ((s.jobEnded p).port p) := by
  obtain ⟨i0, i1, gather, e⟩ := s.port_handLast p
  rw [State.port_jobEnded, e]
  exact Port.ended_completeJob rfl rfl rfl

theorem State.inb_jobEnded (s : State) (p : PortId) (b : BufId) :
    ((s.jobEnded p).port p).inb b = (((s.handLast p).port p).inb b).leaveJob := by
  rw [State.port_jobEnded]
  exact Port.inb_closeJob _ b

/-! ## SETTLING -/

theorem State.enterSettling_turns (turnaround : (s.port p).profile.turnaround ≠ 0) :
    s.enterSettling p = (s.setPortState p .settling).mapPort p (fun x =>
      { x with turnTimer := some (s.port p).profile.turnaround.toNat }) :=
  if_neg fun zero => turnaround (BitVec.eq_of_toNat_eq zero)

/-- With a turnaround of 0 the port goes on to IDLE (R116). -/
theorem State.enterSettling_passes (turnaround : (s.port p).profile.turnaround = 0) :
    s.enterSettling p = ((s.setPortState p .settling).setPortState p .idle).grantHead (.port p) := by
  have zero : (s.port p).profile.turnaround.toNat = 0 := congrArg BitVec.toNat turnaround
  exact if_pos zero

theorem State.grantable_idle (s : State) (p : PortId) : (s.setPortState p .idle).grantable (.port p) = true ↔
    (s.port p).profile.kind = .job ∧ s.lease (.port p) = .free := by
  rw [State.grantable_port_iff, State.port_setPortState_self, State.lease_setPortState]
  simp

end

theorem PortKind.ne_job_iff (k : PortKind) : k ≠ .job ↔ k = .panel := by cases k <;> simp

/-- The port between SETTLING and IDLE, and its queue. -/
theorem State.grantHead_passing {s u : State} {p : PortId}
    (at_ : u = (s.setPortState p .settling).setPortState p .idle) :
    (s.queueOf (.port p) = [] ∨ (s.port p).profile.kind = .panel ∨ s.lease (.port p) ≠ .free →
      u.grantHead (.port p) = u) ∧
    (∀ (w : Wait) (ws : List Wait), s.queueOf (.port p) = w :: ws → (s.port p).profile.kind = .job →
      s.lease (.port p) = .free → u.grantHead (.port p) =
        ((u.setWaits (s.waits.filter (fun v => !(v.link == w.link && v.resource == .port p)))).grant (.port p)
          ⟨w.link, w.cls, w.tag⟩).enterNotice w.link ⟨.granted, .port p, w.tag⟩) := by
  have grantable : u.grantable (.port p) = true ↔ (s.port p).profile.kind = .job ∧ s.lease (.port p) = .free := by
    rw [at_, State.grantable_idle, State.port_setPortState_self, State.lease_setPortState]
  have waits : u.waits = s.waits := by rw [at_, State.waits_setPortState, State.waits_setPortState]
  have queue : u.queueOf (.port p) = s.queueOf (.port p) := by rw [State.queueOf, waits, State.queueOf]
  refine ⟨?_, fun w ws head kind free => ?_⟩
  · rintro (empty | panel | held)
    · exact State.grantHead_none (.inr (queue.trans empty))
    · refine State.grantHead_none (.inl (Bool.eq_false_iff.2 fun can => ?_))
      exact (PortKind.ne_job_iff _).2 panel (grantable.1 can).1
    · exact State.grantHead_none (.inl (Bool.eq_false_iff.2 fun can => held (grantable.1 can).2))
  · rw [State.grantHead_head (grantable.2 ⟨kind, free⟩) (queue.trans head), waits]

/-- Settles O24: the rows of R86, then the end of a job and the entry of SETTLING. -/
theorem releaseIsJudgedByTheTable : Obligations.ReleaseIsJudgedByTheTable := by
  refine ⟨fun s u k tag address r rights h e handles allowed job at_ => ?_, fun s p turnaround => ?_, fun s p => ?_,
    fun s u p => ⟨State.enterSettling_turns, fun turnaround at_ => ?_⟩⟩
  · subst e
    have releases {t : State} {a : Answer} (judged : u.release k r = ⟨t, some a⟩) :
        exec (.release k) s = .next (t.answer k ⟨tag, address, .release r rights⟩ a) := by
      refine exec_release_answered handles ?_
      rw [← at_]
      refine (State.performRelease_releases ?_ ?_).trans judged
      · rw [at_, State.cls_prepared]
        exact allowed
      · rw [at_]
        exact job
    subst at_
    refine ⟨?_, ?_, ?_, ?_, ?_, ?_, ?_⟩
    · exact fun held lease link => releases (State.release_releasing lease link)
    · rintro held z lease link rfl
      exact releases (State.release_zone lease link)
    · rintro held p lease link rfl suspended
      exact releases ((State.release_port (s := s.prepared k (some (.port p))) lease link).trans
        (State.releasePort_suspended suspended))
    · rintro held p lease link rfl running drained
      exact releases ((State.release_port (s := s.prepared k (some (.port p))) lease link).trans
        (State.releasePort_drained running drained))
    · rintro held p lease link rfl running staged
      exact releases ((State.release_port (s := s.prepared k (some (.port p))) lease link).trans
        (State.releasePort_closes running staged))
    · exact fun notHolder waits => releases ((State.release_notHolder (s := s.prepared k (some r)) notHolder).trans
        (State.releaseWait_waits waits))
    · exact fun notHolder none => releases ((State.release_notHolder (s := s.prepared k (some r)) notHolder).trans
        (State.releaseWait_none none))
  · have ended := s.ended_jobEnded p
    have turns : ((s.jobEnded p).port p).profile.turnaround ≠ 0 := by
      rw [ended.profile]
      exact turnaround
    have port : (s.endJob p).port p = { (s.jobEnded p).port p with
        state := .settling, select := false, turnTimer := some ((s.jobEnded p).port p).profile.turnaround.toNat } := by
      rw [State.endJob_eq_settling, State.enterSettling_turns turns, State.port_mapPort_self,
        State.port_setPortState_self]
      rfl
    have lease : (s.endJob p).lease (.port p) = .free := by
      rw [State.endJob_eq_settling, State.enterSettling_turns turns, State.lease_mapPort, State.lease_setPortState,
        State.lease_jobEnded_self]
    have inb (b : BufId) : ((s.endJob p).port p).inb b = (((s.handLast p).port p).inb b).leaveJob := by
      rw [← State.inb_jobEnded, port]
      cases b <;> rfl
    have data (k : LinkId) : ((s.endJob p).link k).dataQ = ((s.handLast p).link k).dataQ := by
      rw [State.endJob_eq_settling]
      exact ((s.jobEnded p).calm_enterSettling p).1.2 k
    refine ⟨lease, ?_, ?_, ?_, ?_, ?_, ?_, ?_, ?_, ?_, ?_, ?_, fun b bytes h filling holding some => ⟨?_, ?_⟩,
      fun b filling => ?_⟩
    · rw [port]
    · rw [port]
    · rw [port, ← ended.profile]
    · rw [port]
      exact ended.credit
    · rw [port]
      exact ended.o0
    · rw [port]
      exact ended.o1
    · rw [port]
      exact ended.idleTimer
    · rw [port]
      exact ended.gatherTimer
    · rw [port]
      exact ended.frameSize
    · rw [port]
      exact ended.paused
    · rw [port]
      exact ended.counters
    · have hands := State.handLast_hands filling ((s.holder_eq_some _ _).2 ⟨h, holding, rfl⟩) some
      rw [data, hands]
      simp [State.handTo]
    · have hands := State.handLast_hands filling ((s.holder_eq_some _ _).2 ⟨h, holding, rfl⟩) some
      rw [inb, hands, State.handTo, State.port_mapPort_self]
      cases b <;> rfl
    · rw [inb, State.handLast_empty filling, State.port_mapPort_self, Port.inb_setInb]
      rfl
  · have ended := s.ended_jobEnded p
    exact ⟨s.jobEnded p, s.endJob_eq_settling p, s.lease_jobEnded_self p, s.waits_jobEnded p,
      fun r ne => s.lease_jobEnded_ne p ne, ended.profile, ended.state, ended.credit, ended.o0, ended.o1,
      ended.idleTimer, ended.gatherTimer, ended.frameSize, ended.paused, ended.counters⟩
  · rw [State.enterSettling_passes turnaround, ← at_]
    exact State.grantHead_passing at_

end Sys2Proof.Machine
end

section
/-! PROOF. The codes of 11_formats_and_signals.md in both directions, the window records (R66, R67, R182), and what the
commands of the management unit share (R163). -/

namespace Sys2Proof.Machine

/-! ## Reading one field after the other -/

/-- A record whose first field must be accepted is refused for that field or for the rest. -/
theorem bind_eq_none_or {α β : Type} {o : Option α} {f : α → Option β} {P Q : Prop} (first : o = none ↔ P)
    (rest : ∀ a, o = some a → (f a = none ↔ Q)) : (o >>= f) = none ↔ P ∨ Q := by
  cases o with
  | none => simpa using Or.inl (first.1 rfl)
  | some a =>
    have accepted : ¬P := fun p => Option.some_ne_none a (first.2 p)
    have same : ((some a >>= f) = none ↔ Q) := rest a rfl
    rw [same]
    simp [accepted]

theorem ite_none_eq_none {α : Type} {c : Prop} [Decidable c] {a : α} : (if c then none else some a) = none ↔ c := by
  split <;> simp [*]

/-! ## Codes -/

section
variable {b : Byte}

theorem Byte.eq_iff_toNat {n : Nat} (small : n < 256) : b = byteOf n ↔ b.toNat = n :=
  ⟨fun e => by rw [e, toNat_byteOf small], eq_byteOf⟩

theorem flagOf_none_iff : flagOf b = none ↔ 1 < b.toNat := by
  unfold flagOf
  split <;> simp_all
  omega

theorem flagOf_some_iff {v : Bool} : flagOf b = some v ↔ b = flagByte v := by
  have zero : b = 0 ↔ b.toNat = 0 := Byte.eq_iff_toNat (n := 0) (by decide)
  have one : b = 1 ↔ b.toNat = 1 := Byte.eq_iff_toNat (n := 1) (by decide)
  unfold flagOf
  split <;> cases v <;> simp_all [flagByte]

/-- The field is set exactly by the byte 1. -/
theorem flagOf_some_true {v : Bool} (h : flagOf b = some v) : v = true ↔ b = 1 := by
  rw [flagOf_some_iff.1 h]
  cases v <;> decide

theorem indexOf_none_iff {n : Nat} : indexOf n b = none ↔ n ≤ b.toNat := by
  unfold indexOf
  split <;> simp_all

theorem indexOf_some_iff {n : Nat} {i : Fin n} : indexOf n b = some i ↔ b.toNat = i.val := by
  unfold indexOf
  split
  · simp [Fin.ext_iff]
  · next high =>
    have low := i.isLt
    simp only [reduceCtorEq, false_iff]
    omega

end

/-! ## Words -/

theorem toNat_wordOf (hi lo : Byte) : (wordOf hi lo).toNat = hi.toNat * 256 + lo.toNat := by
  have high := hi.isLt
  have low := lo.isLt
  rw [wordOf, BitVec.toNat_ofNat]
  omega

theorem hiByte_wordOf (hi lo : Byte) : hiByte (wordOf hi lo) = hi := by
  have low := lo.isLt
  rw [hiByte, toNat_wordOf, show (hi.toNat * 256 + lo.toNat) / 256 = hi.toNat by omega, BitVec.ofNat_toNat,
    BitVec.setWidth_eq]

theorem loByte_wordOf (hi lo : Byte) : loByte (wordOf hi lo) = lo := by
  refine BitVec.eq_of_toNat_eq ?_
  have low := lo.isLt
  rw [loByte, toNat_wordOf, BitVec.toNat_ofNat]
  omega

theorem wordBytes_wordOf (hi lo : Byte) : wordBytes (wordOf hi lo) = [hi, lo] := by
  rw [wordBytes, hiByte_wordOf, loByte_wordOf]

/-! ## Windows -/

section
variable {kind index : Byte}

theorem targetOf_none_iff : targetOf kind index = none ↔
    1 < kind.toNat ∨ (kind = 0 ∧ 5 < index.toNat) ∨ (kind = 1 ∧ 31 < index.toNat) := by
  have zero : kind = 0 ↔ kind.toNat = 0 := Byte.eq_iff_toNat (n := 0) (by decide)
  have one : kind = 1 ↔ kind.toNat = 1 := Byte.eq_iff_toNat (n := 1) (by decide)
  rw [zero, one]
  unfold targetOf
  split
  · next k => simp [indexOf_none_iff, k, Nat.lt_iff_add_one_le]
  · next k => simp [indexOf_none_iff, k, Nat.lt_iff_add_one_le]
  · next k0 k1 =>
    simp only [true_iff]
    left
    have ne0 : kind.toNat ≠ 0 := k0
    have ne1 : kind.toNat ≠ 1 := k1
    omega

theorem targetOf_port {p : PortId} : targetOf kind index = some (.port p) ↔ kind = 0 ∧ index.toNat = p.val := by
  have zero : kind = 0 ↔ kind.toNat = 0 := Byte.eq_iff_toNat (n := 0) (by decide)
  rw [zero]
  unfold targetOf
  split <;> simp_all [indexOf_some_iff]

theorem targetOf_zone {z : ZoneId} : targetOf kind index = some (.zone z) ↔ kind = 1 ∧ index.toNat = z.val := by
  have one : kind = 1 ↔ kind.toNat = 1 := Byte.eq_iff_toNat (n := 1) (by decide)
  rw [one]
  unfold targetOf
  split <;> simp_all [indexOf_some_iff]

end

/-- The bytes of a target (table 11.5.2). -/
def Resource.targetBytes : Resource → List Byte
  | .port p => [0, byteOf p.val]
  | .zone z => [1, byteOf z.val]

theorem targetBytes_of {kind index : Byte} {r : Resource} (h : targetOf kind index = some r) :
    r.targetBytes = [kind, index] := by
  cases r with
  | port p =>
    obtain ⟨rfl, number⟩ := targetOf_port.1 h
    rw [Resource.targetBytes, ← eq_byteOf number]
  | zone z =>
    obtain ⟨rfl, number⟩ := targetOf_zone.1 h
    rw [Resource.targetBytes, ← eq_byteOf number]

/-- The three rights bits return as they were read (R182). -/
theorem ClassRights.byte_ofByte (b : Byte) : (ClassRights.ofByte b).byte = b &&& 7 := by
  revert b
  decide

section
variable {i : WindowId} {en bh bl mh ml kind index r0 r1 r2 : Byte}

theorem Window.ofBytes_none_iff : Window.ofBytes i [en, bh, bl, mh, ml, kind, index, r0, r1, r2] = none ↔
    1 < en.toNat ∨ (i.val < 16 ∧ wordOf bh bl &&& wordOf mh ml ≠ 0) ∨ 1 < kind.toNat ∨
      (kind = 0 ∧ 5 < index.toNat) ∨ (kind = 1 ∧ 31 < index.toNat) := by
  refine bind_eq_none_or flagOf_none_iff fun enabled _ => ?_
  rw [or_comm (a := i.val < 16 ∧ _)]
  refine bind_eq_none_or targetOf_none_iff fun target _ => ?_
  rw [ite_none_eq_none, Bool.and_eq_true, decide_eq_true_eq, bne_iff_ne]

theorem Window.ofBytes_some {w : Window}
    (h : Window.ofBytes i [en, bh, bl, mh, ml, kind, index, r0, r1, r2] = some w) :
    ∃ (enabled : Bool) (target : Resource), flagOf en = some enabled ∧ targetOf kind index = some target ∧
      w = ⟨enabled, wordOf bh bl, wordOf mh ml, target,
        ⟨ClassRights.ofByte r0, ClassRights.ofByte r1, ClassRights.ofByte r2⟩⟩ := by
  obtain ⟨enabled, flag, rest⟩ := Option.bind_eq_some_iff.1 h
  obtain ⟨target, named, rest⟩ := Option.bind_eq_some_iff.1 rest
  split at rest
  · cases rest
  · exact ⟨enabled, target, flag, named, (Option.some.inj rest).symm⟩

theorem Window.bytes_ofBytes {w : Window}
    (h : Window.ofBytes i [en, bh, bl, mh, ml, kind, index, r0, r1, r2] = some w) :
    w.bytes = [en, bh, bl, mh, ml, kind, index, r0 &&& 7, r1 &&& 7, r2 &&& 7] := by
  obtain ⟨enabled, target, flag, named, rfl⟩ := Window.ofBytes_some h
  have bytes : ∀ w : Window, w.bytes = flagByte w.enabled :: (wordBytes w.base ++ wordBytes w.mask ++
      w.target.targetBytes ++ [w.rights.pub.byte, w.rights.staff.byte, w.rights.service.byte]) := fun _ => rfl
  rw [bytes]
  dsimp only
  rw [← flagOf_some_iff.1 flag, wordBytes_wordOf, wordBytes_wordOf, targetBytes_of named, ClassRights.byte_ofByte,
    ClassRights.byte_ofByte, ClassRights.byte_ofByte]
  rfl

end

/-! ## A command answered -/

section
variable {s t : State} {k : LinkId} {tag : Byte} {address : Word} {cmd : MgmtCmd} {c : Byte} {ops : List Byte}
  {r : Option Resource} {a : Answer} {perform : List Byte → State → Performed}

/-- A command of its length, executed past check 1 of R163. -/
theorem exec_mgmt_answered (event : exec (cmd.instr k) s = s.live (s.manage k cmd perform))
    (handles : Handles s k ⟨tag, address, .mgmt cmd (c :: ops)⟩ r) (length : (c :: ops).length = cmd.length)
    (names : cmd.names (c :: ops) = r) (performed : perform ops (s.prepared k r) = ⟨t, some a⟩) :
    exec (cmd.instr k) s = .next (t.answer k ⟨tag, address, .mgmt cmd (c :: ops)⟩ a) := by
  have answered := State.handle_answered handles performed
  obtain ⟨running, hand, -, -⟩ := handles
  rw [event, State.live_running _ running, State.manage_of_length _ hand length, names, answered]

end

/-- Settles O26: the three outcomes of the command, and the record both ways. -/
theorem loadWindowReplacesTheRecord : Obligations.LoadWindowReplacesTheRecord := by
  refine ⟨fun s u k tag address c entry record h e length handles at_ => ?_,
    fun i en bh bl mh ml kind index r0 r1 r2 => ⟨Window.ofBytes_none_iff, fun w accepted => ?_⟩,
    fun rights => ⟨rfl, rfl, rfl⟩, toNat_wordOf⟩
  · subst e at_
    have loads {t : State} {a : Answer} (performed : State.loadWindow (entry :: record) (s.prepared k none) = ⟨t, some a⟩) :
        exec (.loadWindow k) s = .next (t.answer k ⟨tag, address, .mgmt .loadWindow (c :: entry :: record)⟩ a) :=
      exec_mgmt_answered (cmd := .loadWindow) rfl handles (congrArg (· + 2) length) rfl performed
    refine ⟨fun high => loads ?_, fun i named refused => loads ?_, fun i w named accepted => loads ?_⟩
    · rw [State.loadWindow, indexOf_eq_none high]
      rfl
    · rw [State.loadWindow, indexOf_eq_some named]
      dsimp only
      rw [refused]
      rfl
    · rw [State.loadWindow, indexOf_eq_some named]
      dsimp only
      rw [accepted]
      rfl
  · have bytes := Window.bytes_ofBytes accepted
    obtain ⟨enabled, target, flag, named, rfl⟩ := Window.ofBytes_some accepted
    refine ⟨flagOf_some_true flag, toNat_wordOf bh bl, toNat_wordOf mh ml, fun p => ?_, fun z => ?_, ⟨rfl, rfl, rfl⟩,
      ⟨rfl, rfl, rfl⟩, ⟨rfl, rfl, rfl⟩, bytes⟩
    · rw [← targetOf_port, named, Option.some.injEq]
    · rw [← targetOf_zone, named, Option.some.injEq]

end Sys2Proof.Machine
end

section
/-! PROOF. The zone records and LOAD_ZONE (R165, R182), and the drop of the waiters of a resource (R100). -/

namespace Sys2Proof.Machine

/-! ## Dropped waiters -/

/-- Between s and t at most the wait pool and the pending notices of links have changed. -/
structure State.Told (s t : State) : Prop where
  rest : t = { s with waits := t.waits, links := t.links }
  link : ∀ k, t.link k = { s.link k with notices := (t.link k).notices }

section
variable {s t : State} {r : Resource}

theorem State.Told.refl (s : State) : s.Told s := ⟨rfl, fun _ => rfl⟩

theorem State.Told.trans {a b c : State} (h : a.Told b) (g : b.Told c) : a.Told c where
  rest := by
    have second := g.rest
    rw [h.rest] at second
    exact second
  link k := by
    have second := g.link k
    rw [h.link k] at second
    exact second

theorem State.told_setWaits (s : State) (ws : List Wait) : s.Told (s.setWaits ws) := ⟨rfl, fun _ => rfl⟩

theorem State.told_enterNotice (s : State) (k : LinkId) (n : Notice) : s.Told (s.enterNotice k n) where
  rest := by
    unfold State.enterNotice
    split <;> rfl
  link j := by
    rw [State.link_enterNotice]
    split
    · next here => rw [here.1]
    · rfl

/-- A waiter of r is told that its entry is dropped (R100). -/
def State.tellDropped (r : Resource) (t : State) (w : Wait) : State :=
  t.enterNotice w.link ⟨.dropped .disabled, r, w.tag⟩

theorem State.dropWaits_eq (s : State) (r : Resource) : s.dropWaits r =
    (s.queueOf r).foldl (State.tellDropped r) (s.setWaits (s.waits.filter (fun w => !(w.resource == r)))) := rfl

theorem State.told_foldl (r : Resource) : ∀ (ws : List Wait) (t : State), t.Told (ws.foldl (State.tellDropped r) t)
  | [], t => .refl t
  | w :: ws, t => (t.told_enterNotice w.link _).trans (State.told_foldl r ws _)

theorem State.told_dropWaits (s : State) (r : Resource) : s.Told (s.dropWaits r) := by
  rw [State.dropWaits_eq]
  exact (s.told_setWaits _).trans (State.told_foldl r _ _)

theorem State.link_foldl_dropped (r : Resource) (k : LinkId) : ∀ (ws : List Wait) (t : State),
    (∀ w ∈ ws, w.link ≠ k) → (ws.foldl (State.tellDropped r) t).link k = t.link k
  | [], _, _ => rfl
  | w :: ws, t, others => by
    have first : (State.tellDropped r t w).link k = t.link k := by
      rw [State.tellDropped, State.link_enterNotice, if_neg]
      rintro ⟨same, -⟩
      exact others w List.mem_cons_self same.symm
    rw [List.foldl_cons, State.link_foldl_dropped r k ws _ fun v mem => others v (List.mem_cons_of_mem w mem), first]

/-- A link that waited only once keeps the notice of its entry, whatever is told after it. -/
theorem State.mem_foldl_dropped {w : Wait} : ∀ (ws : List Wait) (t : State),
    (∀ v ∈ ws, v.link = w.link → v = w) → (t.link w.link).up = true →
    w ∈ ws ∨ (⟨.dropped .disabled, r, w.tag⟩ : Notice) ∈ (t.link w.link).notices →
    (⟨.dropped .disabled, r, w.tag⟩ : Notice) ∈ ((ws.foldl (State.tellDropped r) t).link w.link).notices
  | [], _, _, _, told => told.resolve_left List.not_mem_nil
  | v :: vs, t, only, up, told => by
    refine State.mem_foldl_dropped vs _ (fun x mem => only x (List.mem_cons_of_mem v mem)) ?_ ?_
    · rw [State.tellDropped, (t.worked_enterNotice v.link _).up]
      exact up
    · by_cases same : v.link = w.link
      · right
        rw [only v List.mem_cons_self same, State.tellDropped, State.link_enterNotice, if_pos ⟨rfl, up⟩]
        exact (mem_mergeNotice_replaces (.inl rfl)).2 (.inl rfl)
      · have later : w ∈ vs ∨ (⟨.dropped .disabled, r, w.tag⟩ : Notice) ∈ (t.link w.link).notices := by
          refine told.imp_left fun mem => (List.mem_cons.1 mem).resolve_left fun e => same ?_
          rw [e]
        rw [State.tellDropped, State.link_enterNotice, if_neg fun here => same here.1.symm]
        exact later

theorem waitsDropped_dropWaits (s : State) (r : Resource) : WaitsDropped s (s.dropWaits r) r where
  waits := s.waits_dropWaits r
  told w mem resource only up := by
    rw [State.dropWaits_eq]
    refine State.mem_foldl_dropped _ _ (fun v queued link => ?_) up (.inl ?_)
    · obtain ⟨waits, same⟩ := List.mem_filter.1 queued
      exact only v waits link (beq_iff_eq.1 same)
    · exact List.mem_filter.2 ⟨mem, beq_iff_eq.2 resource⟩

/-- A link that did not wait for r is left as it was (R100). -/
theorem State.link_dropWaits_other (s : State) {k : LinkId} (others : ∀ w ∈ s.waits, w.resource = r → w.link ≠ k) :
    (s.dropWaits r).link k = s.link k := by
  rw [State.dropWaits_eq, State.link_foldl_dropped r k]
  · rfl
  · intro w queued
    obtain ⟨waits, same⟩ := List.mem_filter.1 queued
    exact others w waits (beq_iff_eq.1 same)

end

/-! ## Zone records -/

section
variable {hi lo hi' lo' : Byte} {c c' : Coord}

theorem coordOf_none_iff : coordOf hi lo = none ↔ 4095 < (wordOf hi lo).toNat := by
  unfold coordOf
  split
  · next fits => simp only [reduceCtorEq, false_iff, Nat.not_lt, Nat.lt_succ_iff.1 fits]
  · next high => simp only [Nat.not_lt.1 high, Nat.lt_of_succ_le]

theorem coordOf_some (h : coordOf hi lo = some c) :
    (wordOf hi lo).toNat < 4096 ∧ c = (wordOf hi lo).setWidth 12 ∧ c.toNat = (wordOf hi lo).toNat := by
  unfold coordOf at h
  split at h
  · next fits =>
    obtain rfl := Option.some.inj h
    refine ⟨fits, rfl, ?_⟩
    rw [BitVec.toNat_setWidth]
    omega
  · cases h

theorem coordBytes_coordOf (h : coordOf hi lo = some c) : coordBytes c = [hi, lo] := by
  obtain ⟨fits, -, value⟩ := coordOf_some h
  have same : c.setWidth 16 = wordOf hi lo := by
    refine BitVec.eq_of_toNat_eq ?_
    rw [BitVec.toNat_setWidth, value]
    exact Nat.mod_eq_of_lt (wordOf hi lo).isLt
  rw [coordBytes, same, wordBytes_wordOf]

/-- Two coordinate patterns have a common bit exactly when the words they came from have (R165). -/
theorem coordOf_and_ne_zero (h : coordOf hi lo = some c) (h' : coordOf hi' lo' = some c') :
    c &&& c' ≠ 0 ↔ wordOf hi lo &&& wordOf hi' lo' ≠ 0 := by
  obtain ⟨-, -, value⟩ := coordOf_some h
  obtain ⟨-, -, value'⟩ := coordOf_some h'
  rw [ne_eq, ne_eq, ← BitVec.toNat_inj, ← BitVec.toNat_inj, BitVec.toNat_and, BitVec.toNat_and, value, value']
  rfl

end

section
variable {en port a b c d e f g h : Byte}

theorem Zone.ofBytes_none_iff : Zone.ofBytes [en, port, a, b, c, d, e, f, g, h] = none ↔
    1 < en.toNat ∨ 5 < port.toNat ∨ 4095 < (wordOf a b).toNat ∨ 4095 < (wordOf c d).toNat ∨
      4095 < (wordOf e f).toNat ∨ 4095 < (wordOf g h).toNat ∨ wordOf a b &&& wordOf c d ≠ 0 ∨
      wordOf e f &&& wordOf g h ≠ 0 := by
  refine bind_eq_none_or flagOf_none_iff fun enabled _ => ?_
  refine bind_eq_none_or indexOf_none_iff fun panel _ => ?_
  refine bind_eq_none_or coordOf_none_iff fun xBase hxBase => ?_
  refine bind_eq_none_or coordOf_none_iff fun xMask hxMask => ?_
  refine bind_eq_none_or coordOf_none_iff fun yBase hyBase => ?_
  refine bind_eq_none_or coordOf_none_iff fun yMask hyMask => ?_
  rw [ite_none_eq_none, Bool.or_eq_true, bne_iff_ne, bne_iff_ne, coordOf_and_ne_zero hxBase hxMask,
    coordOf_and_ne_zero hyBase hyMask]

theorem Zone.ofBytes_some {z : Zone} (accepted : Zone.ofBytes [en, port, a, b, c, d, e, f, g, h] = some z) :
    flagOf en = some z.enabled ∧ indexOf 6 port = some z.panel ∧ coordOf a b = some z.xBase ∧
      coordOf c d = some z.xMask ∧ coordOf e f = some z.yBase ∧ coordOf g h = some z.yMask := by
  obtain ⟨enabled, flag, rest⟩ := Option.bind_eq_some_iff.1 accepted
  obtain ⟨panel, named, rest⟩ := Option.bind_eq_some_iff.1 rest
  obtain ⟨xBase, hxBase, rest⟩ := Option.bind_eq_some_iff.1 rest
  obtain ⟨xMask, hxMask, rest⟩ := Option.bind_eq_some_iff.1 rest
  obtain ⟨yBase, hyBase, rest⟩ := Option.bind_eq_some_iff.1 rest
  obtain ⟨yMask, hyMask, rest⟩ := Option.bind_eq_some_iff.1 rest
  split at rest
  · cases rest
  · obtain rfl := Option.some.inj rest
    exact ⟨flag, named, hxBase, hxMask, hyBase, hyMask⟩

theorem Zone.bytes_ofBytes {z : Zone} (accepted : Zone.ofBytes [en, port, a, b, c, d, e, f, g, h] = some z) :
    z.bytes = [en, port, a, b, c, d, e, f, g, h] := by
  obtain ⟨flag, named, xBase, xMask, yBase, yMask⟩ := Zone.ofBytes_some accepted
  rw [Zone.bytes, ← flagOf_some_iff.1 flag, ← eq_byteOf (indexOf_some_iff.1 named), coordBytes_coordOf xBase,
    coordBytes_coordOf xMask, coordBytes_coordOf yBase, coordBytes_coordOf yMask]
  rfl

end

/-! ## LOAD_ZONE -/

section
variable {s : State} {index : Byte} {record : List Byte} {z : ZoneId} {x : Zone}

theorem State.loadZone_refused (named : index.toNat = z.val) (refused : Zone.ofBytes record = none) :
    State.loadZone (index :: record) s = ⟨s, some (Answer.plain .range (Resource.zone z).code 0)⟩ := by
  rw [State.loadZone, indexOf_eq_some named]
  dsimp only
  rw [refused]
  rfl

theorem State.loadZone_held (named : index.toNat = z.val) (accepted : Zone.ofBytes record = some x)
    (held : s.lease (.zone z) ≠ .free) :
    State.loadZone (index :: record) s = ⟨s, some (Answer.plain .inUse (Resource.zone z).code 0)⟩ := by
  have holding : (s.lease (.zone z)).holding.isSome = true := by
    cases lease : s.lease (.zone z) with
    | free => exact absurd lease held
    | held | releasing => rfl
  rw [State.loadZone, indexOf_eq_some named]
  dsimp only
  rw [accepted]
  exact if_pos holding

theorem State.loadZone_replaces (named : index.toNat = z.val) (accepted : Zone.ofBytes record = some x)
    (free : s.lease (.zone z) = .free) : State.loadZone (index :: record) s =
      ⟨s.replaceZone z x, some (Answer.plain .done (Resource.zone z).code 0)⟩ := by
  have holding : ¬(s.lease (.zone z)).holding.isSome = true := by
    rw [free]
    exact Bool.false_ne_true
  rw [State.loadZone, indexOf_eq_some named]
  dsimp only
  rw [accepted]
  exact if_neg holding

end

/-- Settles O27: the record both ways, the drop of the waiters, and the outcomes of the command. -/
theorem loadZoneReplacesTheRecord : Obligations.LoadZoneReplacesTheRecord := by
  refine ⟨fun en port a b c d e f g h => ⟨Zone.ofBytes_none_iff, fun z accepted => ?_⟩,
    fun s z => waitsDropped_dropWaits s (.zone z), fun s u k tag address c index record h hand length => ?_⟩
  · obtain ⟨flag, named, xBase, xMask, yBase, yMask⟩ := Zone.ofBytes_some accepted
    exact ⟨flagOf_some_true flag, (indexOf_some_iff.1 named).symm, (coordOf_some xBase).2.2, (coordOf_some xMask).2.2,
      (coordOf_some yBase).2.2, (coordOf_some yMask).2.2, Zone.bytes_ofBytes accepted⟩
  · subst hand
    have loads {t : State} {a : Answer} {r : Option Resource}
        (handles : Handles s k ⟨tag, address, .mgmt .loadZone (c :: index :: record)⟩ r)
        (names : (indexOf 32 index).map .zone = r)
        (performed : State.loadZone (index :: record) (s.prepared k r) = ⟨t, some a⟩) :
        exec (.loadZone k) s = .next (t.answer k ⟨tag, address, .mgmt .loadZone (c :: index :: record)⟩ a) :=
      exec_mgmt_answered (cmd := .loadZone) rfl handles (congrArg (· + 2) length) names performed
    refine ⟨fun high handles at_ => ?_, fun z named handles at_ => ?_⟩
    · subst at_
      refine loads handles ?_ ?_
      · rw [indexOf_eq_none high]
        rfl
      · rw [State.loadZone, indexOf_eq_none high]
        rfl
    · subst at_
      have names : (indexOf 32 index).map Resource.zone = some (.zone z) := by
        rw [indexOf_eq_some named]
        rfl
      refine ⟨fun refused => loads handles names (State.loadZone_refused named refused),
        fun x accepted held => loads handles names (State.loadZone_held named accepted held),
        fun x accepted free enabled => ?_, fun x accepted free disabled => ?_⟩
      · rw [loads handles names (State.loadZone_replaces named accepted free), State.replaceZone]
        rw [if_pos enabled]
      · rw [loads handles names (State.loadZone_replaces named accepted free), State.replaceZone]
        rw [if_neg (Bool.eq_false_iff.1 disabled)]

end Sys2Proof.Machine
end

section
/-! PROOF. The codes and the profiles of ports, and LOAD_PORT (R103, R166, R167, R182). -/

namespace Sys2Proof.Machine

/-! ## Codes -/

/-- A code is read from the bytes that are not bad, and is sent as the byte it was read from. -/
structure Codes {α : Type} (read : Byte → Option α) (code : α → Byte) (bad : Byte → Prop) : Prop where
  none_iff : ∀ b, read b = none ↔ bad b
  sent : ∀ {b x}, read b = some x → code x = b

theorem codes_of_map {α : Type} {read : Byte → Option α} {code : α → Byte} {bad : Byte → Prop} [DecidablePred bad]
    (h : ∀ b, (read b).map code = if bad b then none else some b) : Codes read code bad where
  none_iff b := by
    rw [← Option.map_eq_none_iff (f := code), h b]
    exact ite_none_eq_none
  sent {b x} accepted := by
    have both := h b
    rw [accepted, Option.map_some] at both
    split at both
    · cases both
    · exact Option.some.inj both

theorem codes_flag : Codes flagOf flagByte (fun b => 1 < b.toNat) := codes_of_map (by decide)

theorem codes_portKind : Codes PortKind.ofByte PortKind.code (fun b => 1 < b.toNat) := codes_of_map (by decide)

theorem codes_lineRate : Codes LineRate.ofByte LineRate.code (fun b => 7 < b.toNat) := codes_of_map (by decide)

theorem codes_parity : Codes Parity.ofByte Parity.code (fun b => 2 < b.toNat) := codes_of_map (by decide)

theorem codes_stopBits : Codes StopBits.ofByte StopBits.code (fun b => b ≠ 1 ∧ b ≠ 2) := codes_of_map (by decide)

theorem codes_flow : Codes Flow.ofByte Flow.code (fun b => 2 < b.toNat) := codes_of_map (by decide)

theorem codes_link : Codes linkOrNone linkByte (fun b => 7 < b.toNat ∧ b ≠ 0xFF) := codes_of_map (by decide)

theorem codes_class : Codes Class.ofByte (fun x => byteOf x.rank) (fun b => 2 < b.toNat) := codes_of_map (by decide)

theorem codes_linkRate : Codes LinkRate.ofByte LinkRate.code (fun b => 3 < b.toNat) := codes_of_map (by decide)

/-- A value is the one of a byte when its codes are told apart. -/
theorem Codes.eq_iff {α : Type} {read : Byte → Option α} {code : α → Byte} {bad : Byte → Prop}
    (c : Codes read code bad) {b : Byte} {x : α} (y : α) (accepted : read b = some x)
    (apart : ∀ z, code z = code y → z = y) : x = y ↔ b = code y := by
  rw [← c.sent accepted]
  exact ⟨fun e => by rw [e], apart x⟩

theorem linkByte_eq_iff : ∀ (v : Option LinkId) (j : LinkId), linkByte v = linkByte (some j) ↔ v = some j := by decide

theorem linkOrNone_some_iff {b : Byte} {v : Option LinkId} (accepted : linkOrNone b = some v) (j : LinkId) :
    v = some j ↔ b.toNat = j.val := by
  have number : (linkByte (some j)).toNat = j.val := toNat_byteOf (by omega)
  rw [← codes_link.sent accepted, ← number, BitVec.toNat_inj, linkByte_eq_iff]

/-! ## Port profiles -/

section
variable {k r pa st fl pc rc ra il fg sl ta fh fo mh mo gt sy : Byte}

theorem PortProfile.ofBytes_none_iff :
    PortProfile.ofBytes [k, r, pa, st, fl, pc, rc, ra, il, fg, sl, ta, fh, fo, mh, mo, gt, sy] = none ↔
      1 < k.toNat ∨ 7 < r.toNat ∨ 2 < pa.toNat ∨ (st ≠ 1 ∧ st ≠ 2) ∨ 2 < fl.toNat ∨ 1 < ra.toNat ∨
        (7 < sy.toNat ∧ sy ≠ 0xFF) ∨ (fl = 2 ∧ pc = rc) ∨ (wordOf fh fo).toNat < 16 ∨ 512 < (wordOf fh fo).toNat ∨
        (wordOf mh mo).toNat < 8 ∨ (wordOf fh fo).toNat < (wordOf mh mo).toNat ∨ gt = 0 := by
  refine bind_eq_none_or (codes_portKind.none_iff k) fun kind _ => ?_
  refine bind_eq_none_or (codes_lineRate.none_iff r) fun rate _ => ?_
  refine bind_eq_none_or (codes_parity.none_iff pa) fun parity _ => ?_
  refine bind_eq_none_or (codes_stopBits.none_iff st) fun stop _ => ?_
  refine bind_eq_none_or (codes_flow.none_iff fl) fun flow hflow => ?_
  refine bind_eq_none_or (codes_flag.none_iff ra) fun resumeAny _ => ?_
  refine bind_eq_none_or (codes_link.none_iff sy) fun stray _ => ?_
  have codes : flow = .codes ↔ fl = 2 := codes_flow.eq_iff .codes hflow fun z => by cases z <;> decide
  have gather : gt.toNat = 0 ↔ gt = 0 := (Byte.eq_iff_toNat (n := 0) (by decide)).symm
  dsimp only
  rw [ite_none_eq_none]
  simp only [Bool.or_eq_true, Bool.and_eq_true, beq_iff_eq, decide_eq_true_eq, codes, gather, or_assoc]

/-- The profile that a record gives, field by field. -/
theorem PortProfile.ofBytes_some {x : PortProfile}
    (accepted : PortProfile.ofBytes [k, r, pa, st, fl, pc, rc, ra, il, fg, sl, ta, fh, fo, mh, mo, gt, sy] = some x) :
    ∃ (kind : PortKind) (rate : LineRate) (parity : Parity) (stop : StopBits) (flow : Flow) (resumeAny : Bool)
      (stray : Option LinkId),
      (PortKind.ofByte k = some kind ∧ LineRate.ofByte r = some rate ∧ Parity.ofByte pa = some parity ∧
        StopBits.ofByte st = some stop ∧ Flow.ofByte fl = some flow ∧ flagOf ra = some resumeAny ∧
        linkOrNone sy = some stray) ∧
      x = ⟨kind, ⟨rate, parity, stop⟩, flow, pc, rc, resumeAny, il, fg, sl, ta, wordOf fh fo, wordOf mh mo, gt, stray⟩ := by
  obtain ⟨kind, hkind, rest⟩ := Option.bind_eq_some_iff.1 accepted
  obtain ⟨rate, hrate, rest⟩ := Option.bind_eq_some_iff.1 rest
  obtain ⟨parity, hparity, rest⟩ := Option.bind_eq_some_iff.1 rest
  obtain ⟨stop, hstop, rest⟩ := Option.bind_eq_some_iff.1 rest
  obtain ⟨flow, hflow, rest⟩ := Option.bind_eq_some_iff.1 rest
  obtain ⟨resumeAny, hresumeAny, rest⟩ := Option.bind_eq_some_iff.1 rest
  obtain ⟨stray, hstray, rest⟩ := Option.bind_eq_some_iff.1 rest
  dsimp only at rest
  split at rest
  · cases rest
  · exact ⟨kind, rate, parity, stop, flow, resumeAny, stray,
      ⟨hkind, hrate, hparity, hstop, hflow, hresumeAny, hstray⟩, (Option.some.inj rest).symm⟩

end

/-! ## LOAD_PORT -/

section
variable {s : State} {index : Byte} {record : List Byte} {p : PortId} {x : PortProfile}

theorem State.loadPort_refused (named : index.toNat = p.val) (refused : PortProfile.ofBytes record = none) :
    State.loadPort (index :: record) s = ⟨s, some (Answer.plain .range (Resource.port p).code 0)⟩ := by
  rw [State.loadPort, indexOf_eq_some named]
  dsimp only
  rw [refused]
  rfl

theorem State.loadPort_judged (named : index.toNat = p.val) (accepted : PortProfile.ofBytes record = some x) :
    State.loadPort (index :: record) s =
      if (s.port p).state = .disabled then .done (s.mapPort p (Port.load x)) (some (.port p)) 0
      else .answered s (Answer.plain .inUse (Resource.port p).code 0) := by
  rw [State.loadPort, indexOf_eq_some named]
  dsimp only
  rw [accepted]

end

/-- Settles O28: the profile both ways, and the outcomes of the command. -/
theorem loadPortReplacesTheProfile : Obligations.LoadPortReplacesTheProfile := by
  refine ⟨fun k r pa st fl pc rc ra il fg sl ta fh fo mh mo gt sy size mark size_ mark_ => ⟨?_, fun x accepted => ?_⟩,
    rfl, fun s u k tag address c index record h hand length => ?_⟩
  · rw [size_, mark_]
    exact PortProfile.ofBytes_none_iff
  · obtain ⟨kind, rate, parity, stop, flow, resumeAny, stray, ⟨hkind, hrate, hparity, hstop, hflow, hresumeAny, hstray⟩,
      rfl⟩ := PortProfile.ofBytes_some accepted
    refine ⟨codes_portKind.eq_iff .job hkind fun z => ?_, codes_lineRate.sent hrate,
      codes_parity.eq_iff .none hparity fun z => ?_, codes_parity.eq_iff .odd hparity fun z => ?_,
      codes_stopBits.eq_iff .one hstop fun z => ?_, codes_flow.eq_iff .none hflow fun z => ?_,
      codes_flow.eq_iff .lines hflow fun z => ?_, rfl, rfl, flagOf_some_true hresumeAny, rfl, rfl, rfl, rfl, size_.symm,
      mark_.symm, rfl, linkOrNone_some_iff hstray, ?_⟩
    case refine_7 =>
      rw [PortProfile.bytes]
      dsimp only
      rw [codes_portKind.sent hkind, codes_lineRate.sent hrate, codes_parity.sent hparity, codes_stopBits.sent hstop,
        codes_flow.sent hflow, codes_flag.sent hresumeAny, codes_link.sent hstray, wordBytes_wordOf, wordBytes_wordOf]
      rfl
    all_goals cases z <;> decide
  · subst hand
    have loads {t : State} {a : Answer} {q : Option Resource}
        (handles : Handles s k ⟨tag, address, .mgmt .loadPort (c :: index :: record)⟩ q)
        (names : (indexOf 6 index).map .port = q)
        (performed : State.loadPort (index :: record) (s.prepared k q) = ⟨t, some a⟩) :
        exec (.loadPort k) s = .next (t.answer k ⟨tag, address, .mgmt .loadPort (c :: index :: record)⟩ a) :=
      exec_mgmt_answered (cmd := .loadPort) rfl handles (congrArg (· + 2) length) names performed
    refine ⟨fun high handles at_ => ?_, fun p named handles at_ => ?_⟩
    · subst at_
      refine loads handles ?_ ?_
      · rw [indexOf_eq_none high]
        rfl
      · rw [State.loadPort, indexOf_eq_none high]
        rfl
    · subst at_
      have names : (indexOf 6 index).map Resource.port = some (.port p) := by
        rw [indexOf_eq_some named]
        rfl
      refine ⟨fun refused => loads handles names (State.loadPort_refused named refused),
        fun x accepted inUse => loads handles names ((State.loadPort_judged named accepted).trans (if_neg inUse)),
        fun x accepted disabled => loads handles names ((State.loadPort_judged named accepted).trans (if_pos disabled))⟩

end Sys2Proof.Machine
end

section
/-! PROOF. What a teardown leaves to others (R34, R35, R101, R137): the leases of other links, and the buffers that the
link's data queue referred to. -/

namespace Sys2Proof.Machine

/-! ## Leases of other links -/

section
variable {s : State} {r : Resource}

theorem State.lease_revokeZone_ne (s : State) (z : ZoneId) (why : RevokeReason) (ne : r ≠ .zone z) :
    (s.revokeZone z why).lease r = s.lease r := by
  unfold State.revokeZone
  split
  · rfl
  · rw [(State.keepsAt_grantHead_zone _ z ne).lease, (State.keepsAt_noticeRevoked _ r _ _ why).lease,
      State.lease_setLease_ne _ _ ne, (s.keepsAt_detachZone r z _).lease]

theorem State.lease_revoke_ne (s : State) {q : Resource} (why : RevokeReason) (ne : r ≠ q) :
    (s.revoke q why).lease r = s.lease r := by
  cases q with
  | port p => exact (s.workedAt_revokePort p why).leases r ne
  | zone z => exact s.lease_revokeZone_ne z why ne

theorem State.lease_revokeIfHeldBy {k : LinkId} (others : s.holder r ≠ some k) (q : Resource) :
    (s.revokeIfHeldBy k q).lease r = s.lease r := by
  unfold State.revokeIfHeldBy
  split
  · next held =>
    refine s.lease_revoke_ne .linkDown ?_
    rintro rfl
    exact others held
  · rfl

theorem State.lease_revokes {k : LinkId} : ∀ (qs : List Resource) (s : State), s.holder r ≠ some k →
    (qs.foldl (fun t q => t.revokeIfHeldBy k q) s).lease r = s.lease r
  | [], _, _ => rfl
  | q :: qs, s, others => by
    have first := State.lease_revokeIfHeldBy others q
    have still : (s.revokeIfHeldBy k q).holder r ≠ some k := by
      rw [State.holder, first]
      exact others
    exact (State.lease_revokes qs _ still).trans first

theorem State.lease_stripLink (s : State) (k : LinkId) : (s.stripLink k).lease r = s.lease r :=
  (State.keepsAt_returnEntries _ r _).lease.trans (State.lease_mapLink s k _ r)

/-- A teardown revokes no lease of another link (R101). -/
theorem State.lease_tearDown_other {k : LinkId} (others : s.holder r ≠ some k) :
    (s.tearDown k).lease r = s.lease r := by
  have same : (s.stripLink k).lease r = s.lease r := s.lease_stripLink k
  have others' : (s.stripLink k).holder r ≠ some k := by
    rw [State.holder, same]
    exact others
  rw [State.tearDown_eq, State.lease_revokes _ _ others', same]

end

/-! ## Buffers returned -/

/-- A buffer that holds nothing: free, or filling and empty. -/
def InBuf.Empty (i : InBuf) : Prop := i = .free ∨ i = .filling []

section
variable {x : Port} {b : BufId}

theorem Port.inb_judge (x : Port) (b : BufId) : x.judge.inb b = x.inb b := by
  cases b
  · exact x.i0_judge
  · exact x.i1_judge

theorem Port.empty_setInb {c : BufId} {i : InBuf} (h : (x.inb b).Empty) (empty : i.Empty) :
    ((x.setInb c i).inb b).Empty := by
  by_cases same : b = c
  · rw [same, Port.inb_setInb]
    exact empty
  · rw [Port.inb_setInb_ne x same]
    exact h

theorem Port.empty_startFilling (h : (x.inb b).Empty) : (x.startFilling.inb b).Empty := by
  unfold Port.startFilling
  split
  · exact h
  · split
    · exact x.empty_setInb (c := .b0) h (.inr rfl)
    · split
      · exact x.empty_setInb (c := .b1) h (.inr rfl)
      · exact h

theorem Port.empty_closeJob (h : (x.inb b).Empty) : (x.closeJob.inb b).Empty := by
  rw [Port.inb_closeJob]
  rcases h with free | filling
  · rw [free]
    exact .inl rfl
  · rw [filling]
    exact .inr rfl

/-- A returned buffer is free, or is made the filling one (R137). -/
theorem Port.empty_returnBuffer_self (x : Port) (b : BufId) : ((x.returnBuffer b).inb b).Empty := by
  unfold Port.returnBuffer
  dsimp only
  rw [Port.inb_judge]
  split
  · rw [Port.inb_setInb]
    exact .inr rfl
  · rw [Port.inb_setInb]
    exact .inl rfl

theorem Port.empty_returnBuffer (c : BufId) (h : (x.inb b).Empty) : ((x.returnBuffer c).inb b).Empty := by
  unfold Port.returnBuffer
  dsimp only
  rw [Port.inb_judge]
  have freed : ((x.setInb c .free).inb b).Empty := x.empty_setInb h (.inl rfl)
  split
  · exact Port.empty_setInb freed (.inr rfl)
  · exact freed

end

section
variable {s : State} {p : PortId} {b : BufId}

/-- An inbound buffer of the part. -/
def State.inb (s : State) (p : PortId) (b : BufId) : InBuf := (s.port p).inb b

theorem State.empty_mapPort {q : PortId} {f : Port → Port} (h : (s.inb p b).Empty)
    (keeps : ∀ x : Port, (x.inb b).Empty → ((f x).inb b).Empty) : ((s.mapPort q f).inb p b).Empty := by
  rw [State.inb, State.port_mapPort]
  split
  · next same =>
    subst same
    exact keeps _ h
  · exact h

theorem State.inb_setPortState (s : State) (q : PortId) (st : PortState) : (s.setPortState q st).inb p b = s.inb p b := by
  rw [State.inb, State.port_setPortState]
  split
  · next same =>
    subst same
    cases b <;> rfl
  · rfl

theorem State.inb_enterNotice (s : State) (k : LinkId) (n : Notice) : (s.enterNotice k n).inb p b = s.inb p b := by
  rw [State.inb, State.port_enterNotice, State.inb]

theorem State.inb_setLease (s : State) (r : Resource) (l : Lease) : (s.setLease r l).inb p b = s.inb p b := by
  rw [State.inb, State.port_setLease, State.inb]

theorem State.empty_grant (h : (s.inb p b).Empty) (r : Resource) (x : Holding) : ((s.grant r x).inb p b).Empty := by
  cases r with
  | zone z => exact (s.inb_setLease _ _).symm ▸ h
  | port q =>
    refine State.empty_mapPort ?_ fun y empty => ?_
    · rw [State.inb_setPortState, State.inb_setLease]
      exact h
    · rw [Port.inb_judge]
      refine Port.empty_startFilling ?_
      cases b <;> exact empty

theorem State.empty_grantHead (h : (s.inb p b).Empty) (r : Resource) : ((s.grantHead r).inb p b).Empty := by
  unfold State.grantHead
  split
  · split
    · exact h
    · rw [State.inb_enterNotice]
      exact State.empty_grant (s := s.removeWait _ r) h r _
  · exact h

theorem State.empty_enterSettling (h : (s.inb p b).Empty) (q : PortId) : ((s.enterSettling q).inb p b).Empty := by
  have settles : ((s.setPortState q .settling).inb p b).Empty := by
    rw [State.inb_setPortState]
    exact h
  unfold State.enterSettling
  dsimp only
  split
  · refine State.empty_grantHead ?_ _
    rw [State.inb_setPortState]
    exact settles
  · exact State.empty_mapPort settles fun y empty => by cases b <;> exact empty

theorem State.empty_cutInbound (h : (s.inb p b).Empty) (q : PortId) (c : BufId) :
    ((s.cutInbound q c).inb p b).Empty := by
  unfold State.cutInbound
  split
  · exact h
  · exact State.empty_mapPort h fun y empty => y.empty_setInb empty (.inl rfl)
  · split
    · exact State.empty_mapPort h fun y empty => y.empty_setInb empty (.inl rfl)
    · exact h

theorem State.empty_cut (h : (s.inb p b).Empty) (q : PortId) : ((s.cut q).inb p b).Empty :=
  State.empty_mapPort (State.empty_cutInbound (State.empty_cutInbound h q .b0) q .b1) fun y empty => by
    have closed := Port.empty_closeJob empty
    cases b <;> exact closed

theorem State.inb_noticeRevoked (s : State) (r : Resource) (x : Holding) (why : RevokeReason) :
    (s.noticeRevoked r x why).inb p b = s.inb p b := by
  unfold State.noticeRevoked
  split
  · exact s.inb_enterNotice _ _
  · rfl

theorem State.empty_afterCut (h : (s.inb p b).Empty) (q : PortId) : ((s.afterCut q).inb p b).Empty := by
  unfold State.afterCut
  split
  · exact State.empty_enterSettling h q
  · rw [State.inb_setPortState]
    exact h

theorem State.empty_revokePort (h : (s.inb p b).Empty) (q : PortId) : ((s.revokePort q .linkDown).inb p b).Empty := by
  unfold State.revokePort
  split
  · exact h
  · refine State.empty_afterCut ?_ q
    rw [State.inb_noticeRevoked, State.inb_setLease]
    exact State.empty_cut h q

theorem State.inb_detach (s : State) (q : PortId) (z : ZoneId) (tell : Option LinkId) (c : ContactId) :
    (s.detach q z tell c).inb p b = s.inb p b := by
  have contact (t : State) (x : Contact) : (t.setContact q c x).inb p b = t.inb p b := by
    rw [State.inb, State.setContact, State.port_mapPort]
    split
    · next same =>
      subst same
      cases b <;> rfl
    · rfl
  unfold State.detach
  split
  · cases tell <;> exact contact _ _
  · rfl

theorem State.inb_detachZone (s : State) (z : ZoneId) (tell : Option LinkId) :
    (s.detachZone z tell).inb p b = s.inb p b :=
  foldl_keeps (fun t => t.inb p b) _ (fun t c => t.inb_detach _ z tell c) _ s

theorem State.empty_revokeZone (h : (s.inb p b).Empty) (z : ZoneId) (why : RevokeReason) :
    ((s.revokeZone z why).inb p b).Empty := by
  unfold State.revokeZone
  split
  · exact h
  · refine State.empty_grantHead ?_ _
    rw [State.inb_noticeRevoked, State.inb_setLease, State.inb_detachZone]
    exact h

theorem State.empty_revoke (h : (s.inb p b).Empty) (r : Resource) : ((s.revoke r .linkDown).inb p b).Empty := by
  unfold State.revoke
  split
  · exact State.empty_revokePort h _
  · exact State.empty_revokeZone h _ _

theorem State.empty_revokes (k : LinkId) : ∀ (qs : List Resource) (s : State), (s.inb p b).Empty →
    ((qs.foldl (fun t q => t.revokeIfHeldBy k q) s).inb p b).Empty
  | [], _, h => h
  | q :: qs, s, h => by
    refine State.empty_revokes k qs _ ?_
    show ((s.revokeIfHeldBy k q).inb p b).Empty
    unfold State.revokeIfHeldBy
    split
    · exact State.empty_revoke h q
    · exact h

/-- Each buffer that an entry names is returned, and later returns leave it empty. -/
theorem State.empty_returnEntries : ∀ (es : List DataEntry) (s : State),
    (⟨p, b⟩ ∈ es.map (fun e => (e.port, e.buf)) ∨ (s.inb p b).Empty) → ((s.returnEntries es).inb p b).Empty
  | [], _, h => h.resolve_left List.not_mem_nil
  | e :: es, s, h => by
    refine State.empty_returnEntries es (s.mapPort e.port (Port.returnBuffer e.buf)) ?_
    rw [List.map_cons, List.mem_cons] at h
    rcases h with (first | later) | empty
    · right
      obtain ⟨rfl, rfl⟩ := Prod.mk.inj first
      rw [State.inb, State.port_mapPort_self]
      exact Port.empty_returnBuffer_self _ _
    · exact .inl later
    · exact .inr (State.empty_mapPort empty fun y => Port.empty_returnBuffer e.buf)

/-- The buffers of the link's data queue are back at their port engines (R137, R143). -/
theorem State.empty_tearDown {k : LinkId} {e : DataEntry} (queued : e ∈ (s.link k).dataQ) :
    ((s.tearDown k).inb e.port e.buf).Empty := by
  rw [State.tearDown_eq]
  refine State.empty_revokes k _ _ ?_
  exact State.empty_returnEntries (p := e.port) (b := e.buf) _ (s.mapLink k Link.tearDown)
    (.inl (List.mem_map.2 ⟨e, queued, rfl⟩))

end

end Sys2Proof.Machine
end

section
/-! PROOF. The link profiles and LOAD_LINK (R17, R33, R168 to R171, R182). -/

namespace Sys2Proof.Machine

/-! ## Link profiles -/

section
variable {en c mg r hh hl lh ll mh ml : Byte}

theorem LinkProfile.ofBytes_none_iff : LinkProfile.ofBytes [en, c, mg, r, hh, hl, lh, ll, mh, ml] = none ↔
    1 < en.toNat ∨ 2 < c.toNat ∨ 1 < mg.toNat ∨ 3 < r.toNat ∨ (wordOf hh hl).toNat < 256 ∨
      2048 < (wordOf hh hl).toNat ∨ (wordOf hh hl).toNat < (wordOf lh ll).toNat + 256 ∨
      (wordOf mh ml).toNat < 64 ∨ 1024 < (wordOf mh ml).toNat := by
  refine bind_eq_none_or (codes_flag.none_iff en) fun enabled _ => ?_
  refine bind_eq_none_or (codes_class.none_iff c) fun cls _ => ?_
  refine bind_eq_none_or (codes_flag.none_iff mg) fun mgmt _ => ?_
  refine bind_eq_none_or (codes_linkRate.none_iff r) fun rate _ => ?_
  dsimp only
  rw [ite_none_eq_none]
  simp only [Bool.or_eq_true, decide_eq_true_eq, or_assoc]

theorem LinkProfile.ofBytes_some {x : LinkProfile}
    (accepted : LinkProfile.ofBytes [en, c, mg, r, hh, hl, lh, ll, mh, ml] = some x) :
    ∃ (enabled : Bool) (cls : Class) (mgmt : Bool) (rate : LinkRate),
      (flagOf en = some enabled ∧ Class.ofByte c = some cls ∧ flagOf mg = some mgmt ∧
        LinkRate.ofByte r = some rate) ∧
      x = ⟨enabled, cls, mgmt, rate, wordOf hh hl, wordOf lh ll, wordOf mh ml⟩ := by
  obtain ⟨enabled, henabled, rest⟩ := Option.bind_eq_some_iff.1 accepted
  obtain ⟨cls, hcls, rest⟩ := Option.bind_eq_some_iff.1 rest
  obtain ⟨mgmt, hmgmt, rest⟩ := Option.bind_eq_some_iff.1 rest
  obtain ⟨rate, hrate, rest⟩ := Option.bind_eq_some_iff.1 rest
  dsimp only at rest
  split at rest
  · cases rest
  · exact ⟨enabled, cls, mgmt, rate, ⟨henabled, hcls, hmgmt, hrate⟩, (Option.some.inj rest).symm⟩

end

/-! ## A profile loaded -/

section
variable {l : Link} {x : LinkProfile}

theorem Link.loadProfile_sameRate (same : x.rate = l.profile.rate) : l.loadProfile x = { l with profile := x } :=
  if_pos same

theorem Link.loadProfile_newRate (changed : x.rate ≠ l.profile.rate) :
    l.loadProfile x = ({ l with profile := x } : Link).newRate x.rate := if_neg changed

/-- A new rate changes the receiver and what waits for a boundary (R17). -/
theorem Link.newRate_eq (rate : LinkRate) (l : Link) : ∃ (rx : RxState) (rxRate : LinkRate) (waiting : Option LinkRate),
    l.newRate rate = { l with rx := rx, rxRate := rxRate, rxNewRate := waiting, txNewRate := some rate } := by
  unfold Link.newRate
  split
  · exact ⟨l.rx, _, _, rfl⟩
  · exact ⟨_, _, _, rfl⟩
  · exact ⟨l.rx, l.rxRate, _, rfl⟩

theorem Link.newRate_between (rate : LinkRate) (between : l.rx = .hunt ∨ l.rx = .armed) :
    (l.newRate rate).rx = .hunt ∧ (l.newRate rate).rxRate = rate := by
  rcases between with hunt | armed
  · rw [Link.newRate, hunt]
    exact ⟨rfl, rfl⟩
  · rw [Link.newRate, armed]
    exact ⟨rfl, rfl⟩

theorem Link.newRate_inFrame (rate : LinkRate) {phase : RxPhase} {a : Assembly} (frame : l.rx = .frame phase a) :
    l.newRate rate = { l with rxNewRate := some rate, txNewRate := some rate } := by
  rw [Link.newRate, frame]

theorem Link.loadProfile_keeps (l : Link) (x : LinkProfile) : (l.loadProfile x).profile = x ∧
    (l.loadProfile x).counters = l.counters ∧ (l.loadProfile x).holdOut = l.holdOut ∧
    (l.loadProfile x).marks = l.marks := by
  by_cases same : x.rate = l.profile.rate
  · rw [Link.loadProfile_sameRate same]
    exact ⟨rfl, rfl, rfl, rfl⟩
  · obtain ⟨rx, rxRate, waiting, e⟩ := Link.newRate_eq x.rate { l with profile := x }
    rw [Link.loadProfile_newRate same, e]
    exact ⟨rfl, rfl, rfl, rfl⟩

theorem Link.loadProfile_waits (changed : x.rate ≠ l.profile.rate) :
    (l.loadProfile x).txNewRate = some x.rate ∧ (l.loadProfile x).txRate = l.txRate := by
  obtain ⟨rx, rxRate, waiting, e⟩ := Link.newRate_eq x.rate { l with profile := x }
  rw [Link.loadProfile_newRate changed, e]
  exact ⟨rfl, rfl⟩

theorem Link.enable_fresh (fresh : l.selfDisable = none) : l.enable = if l.present then l.comeUp else l := by
  rw [Link.enable, fresh]

theorem Link.enable_pending (pending : l.selfDisable ≠ none) : l.enable = l.clearSelfDisable := by
  obtain ⟨d, e⟩ := Option.ne_none_iff_exists'.1 pending
  rw [Link.enable, e]

end

/-! ## The lockout -/

/-- Some other link keeps the part manageable (R170). -/
def State.OtherManages (s : State) (j : LinkId) : Prop :=
  ∃ i : LinkId, i ≠ j ∧ (s.link i).profile.enabled = true ∧ (s.link i).profile.mgmt = true

section
variable {s : State} {k j : LinkId} {x : LinkProfile}

theorem LinkProfile.manages_iff (x : LinkProfile) : x.manages = true ↔ x.enabled = true ∧ x.mgmt = true := by
  rw [LinkProfile.manages, Bool.and_eq_true]

theorem State.locksOut_eq_false : s.locksOut j x = false ↔ (x.enabled = true ∧ x.mgmt = true) ∨ s.OtherManages j := by
  rw [State.locksOut, Bool.not_eq_false', List.any_eq_true]
  constructor
  · rintro ⟨i, -, manages⟩
    split at manages
    · exact .inl (x.manages_iff.1 manages)
    · next other => exact .inr ⟨i, other, (LinkProfile.manages_iff _).1 manages⟩
  · rintro (own | ⟨i, other, manages⟩)
    · exact ⟨j, mem_linkIds j, by rw [if_pos rfl]; exact x.manages_iff.2 own⟩
    · exact ⟨i, mem_linkIds i, by rw [if_neg other]; exact (LinkProfile.manages_iff _).2 manages⟩

/-! ## LOAD_LINK -/

variable {index : Byte} {record : List Byte}

theorem State.loadLink_range (wrong : 7 < index.toNat ∨ LinkProfile.ofBytes record = none) :
    State.loadLink k (index :: record) s = ⟨s, some (Answer.plain .range 0xFF 0)⟩ := by
  rcases wrong with high | refused
  · rw [State.loadLink, indexOf_eq_none high]
    rfl
  · rw [State.loadLink]
    cases indexOf 8 index with
    | none => rfl
    | some j =>
      dsimp only
      rw [refused]
      rfl

theorem State.loadLink_judged (named : index.toNat = j.val) (accepted : LinkProfile.ofBytes record = some x) :
    State.loadLink k (index :: record) s =
      if s.locksOut j x then .answered s (Answer.plain .lockout noResource 0)
      else ⟨(s.replaceLink k j x).1, some ⟨.done, noResource, 0, [], (s.replaceLink k j x).2⟩⟩ := by
  rw [State.loadLink, indexOf_eq_some named]
  dsimp only
  rw [accepted]

theorem State.loadLink_locked (named : index.toNat = j.val) (accepted : LinkProfile.ofBytes record = some x)
    (unmanaged : x.enabled = false ∨ x.mgmt = false)
    (alone : ∀ i : LinkId, i ≠ j → ¬((s.link i).profile.enabled = true ∧ (s.link i).profile.mgmt = true)) :
    State.loadLink k (index :: record) s = ⟨s, some (Answer.plain .lockout 0xFF 0)⟩ := by
  rw [State.loadLink_judged named accepted]
  refine if_pos (Bool.of_not_eq_false fun free => ?_)
  rcases State.locksOut_eq_false.1 free with ⟨enabled, mgmt⟩ | ⟨i, other, manages⟩
  · rw [enabled, mgmt] at unmanaged
    simp at unmanaged
  · exact alone i other manages

theorem State.loadLink_replaces (named : index.toNat = j.val) (accepted : LinkProfile.ofBytes record = some x)
    (left : (x.enabled = true ∧ x.mgmt = true) ∨ s.OtherManages j) {t : State} {mark : Option Awaited}
    (replaced : s.replaceLink k j x = (t, mark)) :
    State.loadLink k (index :: record) s = ⟨t, some ⟨.done, 0xFF, 0, [], mark⟩⟩ := by
  rw [State.loadLink_judged named accepted, replaced]
  exact if_neg (Bool.eq_false_iff.1 (State.locksOut_eq_false.2 left))

end

/-- Settles O29: the profile both ways, the outcomes of the command, and the teardown. -/
theorem loadLinkTakesEffect : Obligations.LoadLinkTakesEffect := by
  refine ⟨fun en c mg r hh hl lh ll mh ml high low most high_ low_ most_ => ⟨?_, fun x accepted => ?_⟩,
    fun s u k tag address c index record h hand length handles at_ => ?_, fun l x => ?_, rfl, fun s k down => ?_⟩
  · rw [high_, low_, most_]
    exact LinkProfile.ofBytes_none_iff
  · obtain ⟨enabled, cls, mgmt, rate, ⟨henabled, hcls, hmgmt, hrate⟩, rfl⟩ := LinkProfile.ofBytes_some accepted
    refine ⟨flagOf_some_true henabled, codes_linkRate.sent hrate, codes_class.eq_iff .pub hcls fun z => ?_,
      codes_class.eq_iff .staff hcls fun z => ?_, flagOf_some_true hmgmt, high_.symm, low_.symm, most_.symm, ?_⟩
    case refine_3 =>
      rw [LinkProfile.bytes]
      dsimp only
      rw [codes_flag.sent henabled, codes_class.sent hcls, codes_flag.sent hmgmt, codes_linkRate.sent hrate,
        wordBytes_wordOf, wordBytes_wordOf, wordBytes_wordOf]
      rfl
    all_goals cases z <;> decide
  · subst hand
    have profile (i : LinkId) : (u.link i).profile = (s.link i).profile := by rw [at_, State.profile_prepared]
    have up (i : LinkId) : (u.link i).up = (s.link i).up := by
      rw [at_, State.prepared, State.link_mapLink]
      split
      · next same => rw [same]; rfl
      · rfl
    have loads {t : State} {a : Answer} (performed : State.loadLink k (index :: record) u = ⟨t, some a⟩) :
        exec (.loadLink k) s = .next (t.answer k ⟨tag, address, .mgmt .loadLink (c :: index :: record)⟩ a) := by
      rw [at_] at performed
      exact exec_mgmt_answered (cmd := .loadLink) rfl handles (congrArg (· + 2) length) rfl performed
    refine ⟨fun wrong => loads (State.loadLink_range wrong), fun j x named accepted => ⟨?_, ?_⟩⟩
    · rintro ⟨unmanaged, alone⟩
      refine loads (State.loadLink_locked named accepted unmanaged fun i other => ?_)
      rw [profile]
      exact alone i other
    · intro left
      have left' : (x.enabled = true ∧ x.mgmt = true) ∨ u.OtherManages j := by
        refine left.imp_right ?_
        rintro ⟨i, other, manages⟩
        refine ⟨i, other, ?_⟩
        rw [profile]
        exact manages
      have replaced {t : State} {mark : Option Awaited} (h : u.replaceLink k j x = (t, mark)) :=
        loads (State.loadLink_replaces named accepted left' h)
      have changed {new old : Bool} (now : x.enabled = new) (was : (s.link j).profile.enabled = old)
          (differ : new ≠ old) : x.enabled ≠ (u.link j).profile.enabled := by
        rw [profile, now, was]
        exact differ
      refine ⟨fun same => ?_, fun enabled was => ?_, fun disabled was own => ?_, fun disabled was other isUp => ?_,
        fun disabled was other isDown => ?_⟩
      · exact replaced (State.replaceLink_same (by rw [profile, same]))
      · rw [State.mapLink_mapLink]
        exact replaced (State.replaceLink_enables (changed enabled was (by decide)) enabled)
      · subst own
        rw [State.mapLink_mapLink]
        exact replaced (State.replaceLink_own (changed disabled was (by decide)) disabled)
      · exact replaced (State.replaceLink_disables (changed disabled was (by decide)) disabled other (by rw [up, isUp]))
      · exact replaced (State.replaceLink_down (changed disabled was (by decide)) disabled other (by rw [up, isDown]))
  · obtain ⟨profile, counters, holdOut, marks⟩ := l.loadProfile_keeps x
    refine ⟨profile, counters, holdOut, marks, fun same => ?_, fun changed => ?_, fun fresh present => ?_,
      fun fresh absent => ?_, fun pending => ?_⟩
    · rw [Link.loadProfile_sameRate same]
      exact ⟨rfl, rfl⟩
    · obtain ⟨waits, rate⟩ := Link.loadProfile_waits changed
      refine ⟨waits, rate, fun between => ?_, fun ph a frame => ?_⟩
      · rw [Link.loadProfile_newRate changed]
        exact Link.newRate_between (l := { l with profile := x }) x.rate between
      · rw [Link.loadProfile_newRate changed, Link.newRate_inFrame (l := { l with profile := x }) x.rate frame]
        exact ⟨frame, rfl, rfl⟩
    · rw [Link.enable_fresh fresh, if_pos present]
      rfl
    · rw [Link.enable_fresh fresh, if_neg (Bool.eq_false_iff.1 absent)]
    · rw [Link.enable_pending pending]
      exact ⟨rfl, rfl, rfl, rfl, List.length_map _⟩
  · have off : (s.link k).tearDown.up = false := by
      rw [Link.up_tearDown]
      rcases down with absent | disabled
      · rw [absent, Bool.false_and]
      · rw [disabled, Bool.and_false]
    refine ⟨s.tornDown k off, fun r j holder other => State.lease_tearDown_other ?_, fun e queued => s.empty_tearDown queued⟩
    rw [holder]
    exact fun same => other (Option.some.inj same)

end Sys2Proof.Machine
end

section
/-! PROOF. SET_REPORT (R56, R57, R172), the reads (R48, R102, R173) and REVOKE (R99, R175). -/

namespace Sys2Proof.Machine

/-! ## The report link -/

theorem NoticeBody.isPortState_iff (b : NoticeBody) : b.isPortState = true ↔ b.rank = 8 := by
  cases b <;> simp [NoticeBody.isPortState, NoticeBody.rank]

/-- The account of one port that the new report link receives (R57). -/
def State.accountFor (j : LinkId) (u : State) (p : PortId) : State := u.enterNotice j (u.portStateNotice p)

section
variable {s : State} {v : Option LinkId} {i j : LinkId} {p : PortId}

theorem State.setReportLink_some (s : State) (j : LinkId) : s.setReportLink (some j) =
    portIds.foldl (State.accountFor j) { s.withdrawPortStates with reportLink := some j } := rfl

theorem State.link_accounts_ne (ne : i ≠ j) (ps : List PortId) (u : State) :
    (ps.foldl (State.accountFor j) u).link i = u.link i :=
  foldl_keeps (fun t => t.link i) _ (fun t p => by
    rw [State.accountFor, State.link_enterNotice, if_neg fun both => ne both.1]) ps u

theorem State.link_accounts_down : ∀ (ps : List PortId) (u : State), (u.link j).up = false →
    ps.foldl (State.accountFor j) u = u
  | [], _, _ => rfl
  | p :: ps, u, down => by
    rw [List.foldl_cons, State.accountFor, State.enterNotice_down _ down]
    exact State.link_accounts_down ps u down

theorem State.mem_accounts {n : Notice} (here : n.resource = .port p) (kind : n.body.rank = 8) :
    ∀ (ps : List PortId) (u : State), (u.link j).up = true → u.portStateNotice p = n →
      p ∈ ps ∨ n ∈ (u.link j).notices → n ∈ ((ps.foldl (State.accountFor j) u).link j).notices
  | [], _, _, _, told => told.resolve_left List.not_mem_nil
  | q :: qs, u, up, account, told => by
    have entered : (State.accountFor j u q).link j =
        { u.link j with notices := mergeNotice (u.link j).notices (u.portStateNotice q) } := by
      rw [State.accountFor, State.link_enterNotice, if_pos ⟨rfl, up⟩]
    have merged (m : Notice) : m ∈ ((State.accountFor j u q).link j).notices ↔ m = u.portStateNotice q ∨
        (m ∈ (u.link j).notices ∧ (m.resource = .port q → m.body.rank ≠ 8)) := by
      rw [entered]
      exact mem_mergeNotice_replaces (b := .portState _) (.inr (.inr (.inr rfl)))
    refine State.mem_accounts here kind qs _ ?_ ?_ ?_
    · rw [State.accountFor, (u.worked_enterNotice j _).up]
      exact up
    · rw [State.portStateNotice, State.accountFor, State.port_enterNotice]
      exact account
    · by_cases same : q = p
      · right
        rw [merged, same, account]
        exact .inl rfl
      · refine told.imp (fun mem => (List.mem_cons.1 mem).resolve_left (Ne.symm same)) fun mem => ?_
        rw [merged]
        refine .inr ⟨mem, fun there => absurd (Resource.port.inj (here.symm.trans there)).symm same⟩

theorem State.link_withdrawPortStates (s : State) (j : LinkId) : s.withdrawPortStates.link j =
    if s.reportLink = some j then
      { s.link j with notices := (s.link j).notices.filter (fun n => !n.body.isPortState) } else s.link j := by
  unfold State.withdrawPortStates
  split
  · next none => rw [none, if_neg (Option.some_ne_none j).symm]
  · next i previous =>
    rw [State.link_mapLink, previous]
    by_cases same : j = i
    · rw [if_pos same, if_pos (by rw [same]), same]
    · rw [if_neg same, if_neg fun e => same (Option.some.inj e).symm]

theorem State.reportLink_setReportLink (s : State) (v : Option LinkId) : (s.setReportLink v).reportLink = v := by
  cases v with
  | none => rfl
  | some j => exact foldl_keeps State.reportLink _ (fun t p => t.reportLink_enterNotice j _) _ _

/-- The previous report link has no PORT_STATE notice left (R57). -/
theorem State.withdrawn_setReportLink {n : Notice} (previous : s.reportLink = some i) (other : v ≠ some i)
    (mem : n ∈ ((s.setReportLink v).link i).notices) : n.body.rank ≠ 8 := by
  have same : (s.setReportLink v).link i = s.withdrawPortStates.link i := by
    cases v with
    | none => rfl
    | some j =>
      rw [State.setReportLink_some, State.link_accounts_ne fun e => other (by rw [e])]
      rfl
  rw [same, State.link_withdrawPortStates, if_pos previous] at mem
  have kept := (List.mem_filter.1 mem).2
  rw [Bool.not_eq_true', Bool.eq_false_iff, ne_eq, NoticeBody.isPortState_iff] at kept
  exact kept

theorem State.port_withdrawPortStates (s : State) (p : PortId) : s.withdrawPortStates.port p = s.port p := by
  unfold State.withdrawPortStates
  split <;> rfl

theorem State.up_withdrawPortStates (s : State) (j : LinkId) : (s.withdrawPortStates.link j).up = (s.link j).up := by
  rw [State.link_withdrawPortStates]
  split <;> rfl

/-- The new report link, when UP, is told the state of every port (R57). -/
theorem State.account_setReportLink (up : (s.link j).up = true) (p : PortId) :
    (⟨.portState (s.port p).state, .port p, 0⟩ : Notice) ∈ ((s.setReportLink (some j)).link j).notices := by
  rw [State.setReportLink_some]
  refine State.mem_accounts rfl rfl _ _ ?_ ?_ (.inl (mem_portIds p))
  · exact (s.up_withdrawPortStates j).trans up
  · exact congrArg (fun x : Port => (⟨.portState x.state, .port p, 0⟩ : Notice)) (s.port_withdrawPortStates p)

theorem State.down_setReportLink (down : (s.link j).up = false) (other : s.reportLink ≠ some j) :
    ((s.setReportLink (some j)).link j).notices = (s.link j).notices := by
  have same : s.withdrawPortStates.link j = s.link j := by rw [State.link_withdrawPortStates, if_neg other]
  rw [State.setReportLink_some, State.link_accounts_down]
  · exact congrArg Link.notices same
  · exact (congrArg Link.up same).trans down

end

/-! ## A change of port state -/

section
variable {s : State} {p : PortId} {st : PortState}

theorem PortState.isJob_eq (st : PortState) : st.isJob = decide (st = .opened ∨ st = .suspended ∨ st = .closing) := by
  cases st <;> decide

/-- The port with its new state, before the report link is told (R56, R105). -/
def State.withPortState (s : State) (p : PortId) (st : PortState) : State :=
  s.setPort p { s.port p with state := st, select := decide (st = .opened ∨ st = .suspended ∨ st = .closing) }

theorem State.setPortState_eq (s : State) (p : PortId) (st : PortState) : s.setPortState p st =
    match s.reportLink with
    | none => s.withPortState p st
    | some k => (s.withPortState p st).enterNotice k ⟨.portState st, .port p, 0⟩ := by
  rw [State.setPortState, State.mapPort, PortState.isJob_eq]
  rfl

theorem State.setPortState_none (none : s.reportLink = none) : s.setPortState p st = s.withPortState p st := by
  rw [State.setPortState_eq, none]

theorem State.setPortState_down {k : LinkId} (report : s.reportLink = some k) (down : (s.link k).up = false) :
    s.setPortState p st = s.withPortState p st := by
  rw [State.setPortState_eq, report]
  exact State.enterNotice_down _ down

theorem State.setPortState_up {k : LinkId} (report : s.reportLink = some k) (up : (s.link k).up = true) :
    s.setPortState p st = (s.withPortState p st).setLink k
      { s.link k with notices := mergeNotice (s.link k).notices ⟨.portState st, .port p, 0⟩ } := by
  rw [State.setPortState_eq, report]
  exact State.enterNotice_up _ up

theorem State.setPortState_tells {k : LinkId} (report : s.reportLink = some k) (up : (s.link k).up = true) :
    (⟨.portState st, .port p, 0⟩ : Notice) ∈ ((s.setPortState p st).link k).notices := by
  rw [State.setPortState_up report up, State.link_setLink_self]
  exact (mem_mergeNotice_replaces (.inr (.inr (.inr rfl)))).2 (.inl rfl)

end

/-- Settles O30: the outcomes of the command, the full account, and a change of port state. -/
theorem setReportGivesAFullAccount : Obligations.SetReportGivesAFullAccount := by
  refine ⟨fun s u k tag address c b h hand handles at_ => ?_,
    fun s v => ⟨s.reportLink_setReportLink v, fun i n previous other mem => State.withdrawn_setReportLink previous other mem,
      fun j p new up => ?_, fun j new down other => ?_⟩,
    fun s t p st at_ => ?_⟩
  · subst hand at_
    have sets {t : State} {a : Answer} (performed : State.setReport [b] (s.prepared k none) = ⟨t, some a⟩) :
        exec (.setReport k) s = .next (t.answer k ⟨tag, address, .mgmt .setReport [c, b]⟩ a) :=
      exec_mgmt_answered (cmd := .setReport) rfl handles rfl rfl performed
    have judged {v : Option LinkId} (read : linkOrNone b = some v) : State.setReport [b] (s.prepared k none) =
        ⟨(s.prepared k none).setReportLink v, some (Answer.plain .done 0xFF 0)⟩ := by
      rw [State.setReport, read]
      rfl
    refine ⟨fun high other => sets ?_, fun absent => sets (judged ?_), fun j named => sets (judged ?_)⟩
    · rw [State.setReport, (codes_link.none_iff b).2 ⟨high, other⟩]
      rfl
    · rw [absent]
      rfl
    · cases read : linkOrNone b with
      | none =>
        have high := ((codes_link.none_iff b).1 read).1
        omega
      | some v => rw [(linkOrNone_some_iff read j).2 named]
  · subst new
    exact State.account_setReportLink up p
  · subst new
    exact State.down_setReportLink down other
  · subst at_
    exact ⟨State.setPortState_none, fun k report down => State.setPortState_down report down,
      fun k report up => ⟨State.setPortState_up report up, State.setPortState_tells report up⟩⟩

/-! ## Reads -/

theorem Resource.ofCode_some_iff {b : Byte} {r : Resource} : Resource.ofCode b = some r ↔ b = r.code := by
  have number : (Resource.code r).toNat = r.num := toNat_byteOf (Nat.lt_trans r.num_lt (by decide))
  rw [← BitVec.toNat_inj, number]
  unfold Resource.ofCode
  cases r with
  | port p =>
    have := p.isLt
    simp only [Resource.num]
    split
    · simp [Fin.ext_iff]
    · split
      · simp only [Option.some.injEq, reduceCtorEq, false_iff]
        omega
      · simp only [reduceCtorEq, false_iff]
        omega
  | zone z =>
    have := z.isLt
    simp only [Resource.num]
    split
    · simp only [Option.some.injEq, reduceCtorEq, false_iff]
      omega
    · split
      · simp only [Option.some.injEq, Resource.zone.injEq, Fin.ext_iff]
        omega
      · simp only [reduceCtorEq, false_iff]
        omega

section
variable {s : State} {n : Nat} {b : Byte} {names : Fin n → Option Resource} {bytes : Fin n → List Byte}

theorem State.readIndexed_range (high : n ≤ b.toNat) :
    s.readIndexed [b] names bytes = ⟨s, some (Answer.plain .range 0xFF 0)⟩ := by
  rw [State.readIndexed, indexOf_eq_none high]
  rfl

theorem State.readIndexed_reads {i : Fin n} (named : b.toNat = i.val) :
    s.readIndexed [b] names bytes = ⟨s, some ⟨.done, namedCode (names i), 0, bytes i, none⟩⟩ := by
  rw [State.readIndexed, indexOf_eq_some named]
  rfl

theorem State.readProfile_prepared (s : State) (k j : LinkId) (r : Option Resource) :
    ((s.prepared k r).link j).readProfile = (s.link j).readProfile := by
  rw [State.prepared, State.link_mapLink]
  split
  · next same =>
    rw [same]
    cases r <;> rfl
  · rfl

/-- The report of a STATUS, byte by byte (11.3.2). -/
theorem State.statusReport_eq (s : State) (k : LinkId) (r : Resource) : s.statusReport k r =
    [(match s.lease r with | .free => 0x00 | .held _ => 0x01 | .releasing _ => 0x02),
      (if s.holder r = some k then 0x01 else 0x00), byteOf (s.position k r),
      byteOf (s.waits.filter (fun w => w.resource == r)).length,
      (match r with | .port p => (s.port p).state.code | .zone z => if (s.zone z).enabled then 0x01 else 0x00),
      (match r with | .port p => if s.holder r = some k then byteOf (s.port p).credit else 0x00 | .zone _ => 0x00)] := by
  have code : (s.lease r).code = match s.lease r with | .free => 0x00 | .held _ => 0x01 | .releasing _ => 0x02 := by
    cases s.lease r <;> rfl
  have asks : flagByte (s.holder r == some k) = if s.holder r = some k then 0x01 else 0x00 := by
    by_cases holder : s.holder r = some k
    · rw [holder, if_pos rfl, beq_self_eq_true]
      rfl
    · rw [if_neg holder, beq_eq_false_iff_ne.2 holder]
      rfl
  rw [State.statusReport, code, asks]
  cases r <;> rfl

theorem exec_status_reports {k : LinkId} {tag : Byte} {address : Word} {r : Resource} {rights : Rights}
    (handles : Handles s k ⟨tag, address, .status r rights⟩ (some r))
    (allowed : (rights.of (s.link k).profile.cls).status = true) :
    exec (.status k) s = .next ((s.prepared k (some r)).answer k ⟨tag, address, .status r rights⟩
      ⟨.done, r.code, 0, s.statusReport k r, none⟩) := by
  refine exec_status_answered handles ?_
  have right : (rights.of ((s.prepared k (some r)).cls k)).status = true := by
    rw [State.cls_prepared]
    exact allowed
  rw [State.performStatus, right]
  rfl

/-- The lease record, byte by byte (table 11.5.3). -/
theorem State.leaseBytes_eq (s : State) (r : Resource) : s.leaseBytes r =
    (match s.lease r with
      | .free => [0x00, 0xFF, 0xFF, 0x00]
      | .held x => [0x01, byteOf x.link.val, byteOf x.cls.rank, x.tag]
      | .releasing x => [0x02, byteOf x.link.val, byteOf x.cls.rank, x.tag]) ++
      timerBytes (match r with | .port p => (s.port p).idleTimer | .zone _ => none) ++
      [byteOf (s.queueOf r).length] ++
      (s.queueOf r).flatMap (fun w => [byteOf w.link.val, byteOf w.cls.rank, w.tag]) := by
  have timer : s.idleTimerOf r = match r with | .port p => (s.port p).idleTimer | .zone _ => none := by
    cases r <;> rfl
  rw [State.leaseBytes, timer]
  cases s.lease r <;> rfl

end

theorem timerBytes_some {n : Nat} (small : n < 16777216) : ∃ high mid low : Byte,
    timerBytes (some n) = [high, mid, low] ∧ high.toNat * 65536 + mid.toNat * 256 + low.toNat = n := by
  refine ⟨_, _, _, rfl, ?_⟩
  simp only [byteOf, BitVec.toNat_ofNat, Option.getD_some]
  omega

/-- Settles O31: the report of STATUS, the indexed reads, and the lease record. -/
theorem readsReturnTheRecord : Obligations.ReadsReturnTheRecord := by
  refine ⟨fun s u k tag address r rights h more hand handles allowed at_ more_ => ?_,
    fun s k tag address c b h => ⟨fun hand handles => ⟨fun high => ?_, fun i named => ?_⟩,
      fun hand => ⟨fun high handles => ?_, fun z named handles => ?_⟩,
      fun hand => ⟨fun high handles => ?_, fun p named handles => ?_⟩,
      fun hand handles => ⟨fun high => ?_, fun j named => ?_⟩⟩,
    fun s k tag address c b h hand => ⟨fun none handles => ?_, fun r more named handles more_ => ?_⟩,
    rfl, rfl, rfl, fun n => timerBytes_some⟩
  · subst hand at_
    have report : more = s.statusReport k r := more_.trans (s.statusReport_eq k r).symm
    rw [exec_status_reports handles allowed, report]
  · subst hand
    exact exec_mgmt_answered (cmd := .readWindow) rfl handles rfl rfl (State.readIndexed_range high)
  · subst hand
    exact exec_mgmt_answered (cmd := .readWindow) rfl handles rfl rfl (State.readIndexed_reads named)
  · subst hand
    refine exec_mgmt_answered (cmd := .readZone) rfl handles rfl ?_ (State.readIndexed_range high)
    simp [MgmtCmd.names, indexOf_eq_none high]
  · subst hand
    refine exec_mgmt_answered (cmd := .readZone) rfl handles rfl ?_ (State.readIndexed_reads named)
    simp [MgmtCmd.names, indexOf_eq_some named]
  · subst hand
    refine exec_mgmt_answered (cmd := .readPort) rfl handles rfl ?_ (State.readIndexed_range high)
    simp [MgmtCmd.names, indexOf_eq_none high]
  · subst hand
    refine exec_mgmt_answered (cmd := .readPort) rfl handles rfl ?_ (State.readIndexed_reads named)
    simp [MgmtCmd.names, indexOf_eq_some named]
  · subst hand
    exact exec_mgmt_answered (cmd := .readLink) rfl handles rfl rfl (State.readIndexed_range high)
  · subst hand
    have performed := State.readIndexed_reads (s := s.prepared k none) (names := fun _ => none)
      (bytes := fun j => ((s.prepared k none).link j).readProfile.bytes) named
    rw [State.readProfile_prepared] at performed
    exact exec_mgmt_answered (cmd := .readLink) rfl handles rfl rfl performed
  · subst hand
    refine exec_mgmt_answered (cmd := .readLease) rfl handles rfl none ?_
    rw [State.readLease, none]
    rfl
  · subst hand
    have code := Resource.ofCode_some_iff.2 named
    have record : more = s.leaseBytes r := more_.trans (s.leaseBytes_eq r).symm
    refine exec_mgmt_answered (cmd := .readLease) rfl handles rfl code ?_
    rw [State.readLease, code, record, named]
    rfl

/-! ## REVOKE -/

theorem State.holding_isSome_iff {s : State} {r : Resource} : (s.lease r).holding.isSome = true ↔ s.lease r ≠ .free := by
  cases s.lease r <;> simp [Lease.holding]

theorem State.manageRevoke_judged {s : State} {b : Byte} {r : Resource} (code : Resource.ofCode b = some r) :
    s.manageRevoke [b] = if (s.lease r).holding.isSome then .done (s.revoke r (.cause .managed)) (some r) 1
      else .done s (some r) 0 := by
  rw [State.manageRevoke, code]

/-- Settles O33: the resource numbers, and the outcomes of the command. -/
theorem revokeEndsAHeldLease : Obligations.RevokeEndsAHeldLease := by
  refine ⟨fun p => toNat_byteOf (by exact Nat.lt_trans p.isLt (by decide)), fun z => Resource.code_zone z,
    fun b r => Resource.ofCode_some_iff, fun s k tag address c b h hand => ⟨fun none handles => ?_,
      fun r named handles => ⟨fun free => ?_, fun held => ?_⟩⟩⟩
  · subst hand
    refine exec_mgmt_answered (cmd := .revoke) rfl handles rfl none ?_
    rw [State.manageRevoke, none]
    rfl
  · subst hand
    have code := Resource.ofCode_some_iff.2 named
    refine exec_mgmt_answered (cmd := .revoke) rfl handles rfl code ?_
    rw [named]
    refine (State.manageRevoke_judged (Resource.ofCode_some_iff.2 rfl)).trans (if_neg ?_)
    exact fun holding => State.holding_isSome_iff.1 holding free
  · subst hand
    have code := Resource.ofCode_some_iff.2 named
    refine exec_mgmt_answered (cmd := .revoke) rfl handles rfl code ?_
    rw [named]
    exact (State.manageRevoke_judged (Resource.ofCode_some_iff.2 rfl)).trans (if_pos (State.holding_isSome_iff.2 held))

end Sys2Proof.Machine
end

section
/-! PROOF. Panels: the lookup of a report (R150), its way by the contact table (R153 to R158), and its assembly from
bytes (R146 to R148, R181). -/

namespace Sys2Proof.Machine

/-! ## The deciding zone -/

/-- Coordinates agree once the bits under a mask are cleared exactly when they agree at every bit it does not free. -/
theorem Coord.and_not_eq_iff (x y m : Coord) :
    x &&& ~~~m = y &&& ~~~m ↔ ∀ i : Nat, i < 12 → m.getLsbD i = false → x.getLsbD i = y.getLsbD i := by
  constructor
  · intro same i small free
    have bit := congrArg (BitVec.getLsbD · i) same
    simpa only [BitVec.getLsbD_and, BitVec.getLsbD_not, small, free, decide_true, Bool.not_false,
      Bool.and_true] using bit
  · intro agree
    refine BitVec.eq_of_getLsbD_eq fun i small => ?_
    cases masked : m.getLsbD i
    · simp [masked, agree i small masked]
    · simp [masked]

theorem Zone.matches_iff (z : Zone) (p : PortId) (x y : Coord) : z.matches p x y = true ↔
    z.enabled = true ∧ z.panel = p ∧
      (∀ i : Nat, i < 12 → z.xMask.getLsbD i = false → x.getLsbD i = z.xBase.getLsbD i) ∧
      (∀ i : Nat, i < 12 → z.yMask.getLsbD i = false → y.getLsbD i = z.yBase.getLsbD i) := by
  simp only [Zone.matches, Bool.and_eq_true, beq_iff_eq, Coord.and_not_eq_iff, and_assoc]

theorem zoneIds_sorted : zoneIds.Pairwise (fun a b => a < b) := by decide

theorem State.zoneAt_some_iff {s : State} {p : PortId} {x y : Coord} {z : ZoneId} : s.zoneAt p x y = some z ↔
    (s.zone z).matches p x y = true ∧ ∀ v : ZoneId, v < z → (s.zone v).matches p x y = false := by
  rw [State.zoneAt, List.find?_eq_some_iff_append]
  refine and_congr_right fun _ => ⟨?_, fun lowest => ?_⟩
  · rintro ⟨before, after, order, none⟩ v below
    have sorted := zoneIds_sorted
    rw [order, List.pairwise_append] at sorted
    obtain ⟨-, later, -⟩ := sorted
    have member : v ∈ before ++ z :: after := order ▸ mem_zoneIds v
    rcases List.mem_append.1 member with first | rest
    · simpa using none v first
    · rcases List.mem_cons.1 rest with rfl | beyond
      · exact absurd below (lt_irrefl _)
      · exact absurd (List.rel_of_pairwise_cons later beyond) (lt_asymm below)
  · obtain ⟨before, after, order⟩ := List.append_of_mem (mem_zoneIds z)
    have sorted := zoneIds_sorted
    rw [order, List.pairwise_append] at sorted
    obtain ⟨-, -, apart⟩ := sorted
    refine ⟨before, after, order, fun v first => ?_⟩
    rw [lowest v (apart v first z List.mem_cons_self)]
    rfl

theorem State.zoneAt_none_iff {s : State} {p : PortId} {x y : Coord} : s.zoneAt p x y = none ↔
    ∀ v : ZoneId, (s.zone v).matches p x y = false := by
  rw [State.zoneAt, List.find?_eq_none]
  exact ⟨fun none v => by simpa using none v (mem_zoneIds v), fun none v _ => by simp [none v]⟩

/-- Settles O46: the match bit by bit, and the first of the zones in their order. -/
theorem lookupFindsTheLowestZone : Obligations.LookupFindsTheLowestZone :=
  ⟨Zone.matches_iff, fun _ _ _ _ _ => State.zoneAt_some_iff, fun _ _ _ _ => State.zoneAt_none_iff⟩

/-! ## Contacts and their last coordinates -/

section
variable {s : State} {p : PortId} {c : ContactId} {x y : Coord}

@[simp] theorem State.contact_setContact_self (s : State) (p : PortId) (c : ContactId) (x : Contact) :
    (s.setContact p c x).contact p c = x := by
  rw [State.contact_setContact, if_pos ⟨rfl, rfl⟩]

@[simp] theorem State.setContact_setContact (s : State) (p : PortId) (c : ContactId) (x y : Contact) :
    (s.setContact p c x).setContact p c y = s.setContact p c y := by
  simp [State.setContact, State.mapPort]

theorem State.setLast_setContact (s : State) (z : Contact) :
    (s.setContact p c z).setLast p c x y = s.setContact p c ⟨z.state, x, y⟩ := by
  rw [State.setLast, State.contact_setContact_self, State.setContact_setContact]

theorem State.setLast_setContactState (s : State) (st : ContactState) :
    (s.setContactState p c st).setLast p c x y = s.setContact p c ⟨st, x, y⟩ :=
  s.setLast_setContact _

theorem State.setLast_of_state {st : ContactState} (state : (s.contact p c).state = st) :
    s.setLast p c x y = s.setContact p c ⟨st, x, y⟩ := by
  rw [State.setLast, ← state]

theorem State.setLast_queueReport (s : State) (k : LinkId) (r : Report) :
    (s.queueReport k r).setLast p c x y = (s.setLast p c x y).queueReport k r := rfl

theorem State.setLast_mapCounters (s : State) (f : PortCounters → PortCounters) :
    (s.mapPort p (fun q => q.mapCounters f)).setLast p c x y =
      (s.setLast p c x y).mapPort p (fun q => q.mapCounters f) := by
  simp only [State.setLast, State.setContact, State.contact, State.mapPort, State.port_setPort_self,
    State.setPort_setPort]
  rfl

theorem State.stray_setContact (s : State) (z : Contact) (ph : Phase) :
    (s.setContact p c z).stray p ph c x y = (s.stray p ph c x y).setContact p c z := by
  have same : ((s.setContact p c z).port p).profile = (s.port p).profile := by
    rw [State.setContact, State.port_mapPort_self]
  unfold State.stray
  rw [same]
  split <;> rfl

theorem State.contact_stray (s : State) (ph : Phase) : (s.stray p ph c x y).contact p c = s.contact p c := by
  unfold State.stray
  split <;> rfl

theorem State.setLast_stray (s : State) (ph : Phase) :
    (s.stray p ph c x y).setLast p c x y = (s.setLast p c x y).stray p ph c x y := by
  rw [State.setLast, State.contact_stray, State.setLast, State.stray_setContact]

/-! ## The contact table -/

theorem State.heldZoneAt_held {z : ZoneId} {h : Holding} (zone : s.zoneAt p x y = some z)
    (held : s.lease (.zone z) = .held h) : s.heldZoneAt p x y = some (z, h.link) := by
  rw [State.heldZoneAt, zone]
  dsimp only
  rw [held]

theorem State.heldZoneAt_none (none : ∀ (z : ZoneId) (h : Holding), s.zoneAt p x y = some z → s.lease (.zone z) ≠ .held h) :
    s.heldZoneAt p x y = .none := by
  cases found : s.heldZoneAt p x y with
  | none => rfl
  | some zk =>
    obtain ⟨z, k⟩ := zk
    obtain ⟨zone, h, held, -⟩ := State.heldZoneAt_eq_some found
    exact absurd held (none z h zone)

/-- A report looked up at a HELD zone is captured and forwarded (R153). -/
theorem State.lookUp_held {ph : Phase} {z : ZoneId} {h : Holding} (zone : s.zoneAt p x y = some z)
    (held : s.lease (.zone z) = .held h) : (s.lookUp p ph c x y).setLast p c x y =
      (s.setContact p c ⟨.captured z, x, y⟩).queueReport h.link ⟨some z, p, ph, c, x, y⟩ := by
  rw [State.lookUp, State.heldZoneAt_held zone held]
  dsimp only
  rw [State.setLast_queueReport, State.setLast_setContactState]

/-- A report looked up elsewhere is counted and goes to the stray link (R153, R158). -/
theorem State.lookUp_stray {ph : Phase}
    (none : ∀ (z : ZoneId) (h : Holding), s.zoneAt p x y = some z → s.lease (.zone z) ≠ .held h) :
    (s.lookUp p ph c x y).setLast p c x y = ((s.setContact p c ⟨.detached, x, y⟩).mapPort p (fun q =>
      { q with counters := { q.counters with strayTouches := bump q.counters.strayTouches } })).stray p ph c x y := by
  rw [State.lookUp, State.heldZoneAt_none none]
  dsimp only
  rw [State.setLast_stray, State.setLast_mapCounters, State.setLast_setContactState]
  rfl

theorem State.handleReport_down_new (free : ∀ v : ZoneId, (s.contact p c).state ≠ .captured v) :
    s.handleReport p .down c x y = (s.lookUp p .down c x y).setLast p c x y := by
  rw [State.handleReport, State.downReport]
  split
  · next z captured => exact absurd captured (free z)
  · rfl
  · rfl

theorem State.handleReport_move_new (free : (s.contact p c).state = .free) :
    s.handleReport p .move c x y = (s.lookUp p .move c x y).setLast p c x y := by
  rw [State.handleReport, State.moveReport, free]

/-- A report that is looked up (R153, R154). -/
theorem State.handleReport_new {ph : Phase} (new : (ph = .down ∧ ∀ v : ZoneId, (s.contact p c).state ≠ .captured v) ∨
    (ph = .move ∧ (s.contact p c).state = .free)) :
    s.handleReport p ph c x y = (s.lookUp p ph c x y).setLast p c x y := by
  rcases new with ⟨rfl, free⟩ | ⟨rfl, free⟩
  · exact State.handleReport_down_new free
  · exact State.handleReport_move_new free

section
variable {z : ZoneId} {k : LinkId} (captured : (s.contact p c).state = .captured z)
  (holder : s.holder (.zone z) = some k)
include captured holder

/-- A DOWN of a CAPTURED contact is looked up after its synthetic UP (R153, R156). -/
theorem State.handleReport_down_captured : s.handleReport p .down c x y =
    ((s.queueReport k ⟨some z, p, .up, c, (s.contact p c).lastX, (s.contact p c).lastY⟩).lookUp p .down c x
      y).setLast p c x y := by
  rw [State.handleReport, State.downReport, captured]
  dsimp only
  rw [holder]
  rfl

theorem State.handleReport_move_captured : s.handleReport p .move c x y =
    (s.setContact p c ⟨.captured z, x, y⟩).queueReport k ⟨some z, p, .move, c, x, y⟩ := by
  rw [State.handleReport, State.moveReport, captured]
  dsimp only
  rw [State.forward, holder]
  dsimp only
  rw [State.setLast_queueReport, State.setLast_of_state captured]

theorem State.handleReport_up_captured : s.handleReport p .up c x y =
    (s.setContact p c ⟨.free, x, y⟩).queueReport k ⟨some z, p, .up, c, x, y⟩ := by
  rw [State.handleReport, State.upReport, captured]
  dsimp only
  rw [State.forward, holder]
  dsimp only
  rw [State.setLast_setContactState]
  rfl

end

theorem State.handleReport_move_detached (detached : (s.contact p c).state = .detached) :
    s.handleReport p .move c x y = (s.setContact p c ⟨.detached, x, y⟩).stray p .move c x y := by
  rw [State.handleReport, State.moveReport, detached]
  dsimp only
  rw [State.setLast_stray, State.setLast_of_state detached]

theorem State.handleReport_up_detached (detached : (s.contact p c).state = .detached) :
    s.handleReport p .up c x y = (s.setContact p c ⟨.free, x, y⟩).stray p .up c x y := by
  rw [State.handleReport, State.upReport, detached]
  dsimp only
  rw [State.setLast_setContactState, State.stray_setContact]

theorem State.handleReport_up_free (free : (s.contact p c).state = .free) :
    s.handleReport p .up c x y = (s.setContact p c ⟨.free, x, y⟩).mapPort p Port.countMalformed := by
  rw [State.handleReport, State.upReport, free]
  dsimp only
  rw [← State.setLast_of_state free]
  exact s.setLast_mapCounters _

end

/-- Settles O47: each row of R153 to R158. -/
theorem contactTableRoutesReports : Obligations.ContactTableRoutesReports := by
  refine ⟨fun s p c x y => ⟨fun ph z h new zone held => ?_, fun ph new none => ?_,
    fun z k captured holder => State.handleReport_move_captured captured holder,
    fun z k captured holder => State.handleReport_up_captured captured holder,
    State.handleReport_move_detached, State.handleReport_up_detached, State.handleReport_up_free,
    fun z v k h captured holder zone held => ?_, fun z k captured holder none => ?_,
    fun ph => ⟨fun none => ?_, fun k stray => ?_⟩⟩, fun s k r => rfl, fun x => rfl⟩
  · rw [State.handleReport_new new, State.lookUp_held zone held]
  · rw [State.handleReport_new new, State.lookUp_stray none]
  · rw [State.handleReport_down_captured captured holder]
    exact State.lookUp_held (s := s.queueReport k _) zone held
  · rw [State.handleReport_down_captured captured holder]
    exact State.lookUp_stray (s := s.queueReport k _) none
  · rw [State.stray, none]
  · rw [State.stray, stray]

/-! ## Reports read from their bytes -/

section
variable {s : State} {p : PortId} {lead d1 d2 d3 d4 : Byte}

theorem leadPhase_none (wrong : lead.toNat / 32 % 4 = 3) : leadPhase lead = none := by
  simp only [leadPhase, wrong]

theorem leadPhase_some {ph : Phase} (code : (lead.toNat / 32 % 4 = 0 ∧ ph = .down) ∨
    (lead.toNat / 32 % 4 = 1 ∧ ph = .move) ∨ (lead.toNat / 32 % 4 = 2 ∧ ph = .up)) : leadPhase lead = some ph := by
  rcases code with ⟨code, rfl⟩ | ⟨code, rfl⟩ | ⟨code, rfl⟩ <;> simp only [leadPhase, code]

theorem leadContact_none (wrong : 9 < lead.toNat % 16) : leadContact lead = none := dif_neg (by omega)

theorem leadContact_some {c : ContactId} (number : lead.toNat % 16 = c.val) : leadContact lead = some c := by
  have below : lead.toNat % 16 < 10 := by omega
  rw [leadContact, dif_pos below]
  exact congrArg some (Fin.ext number)

theorem coordFrom_eq {x : Coord} (value : x.toNat = d1.toNat % 64 * 64 + d2.toNat % 64) : coordFrom d1 d2 = x := by
  refine BitVec.eq_of_toNat_eq ?_
  rw [coordFrom, BitVec.toNat_ofNat, value]
  omega

theorem State.completeReport_malformed (wrong : lead.toNat / 32 % 4 = 3 ∨ 9 < lead.toNat % 16) :
    s.completeReport p lead d1 d2 d3 d4 = s.mapPort p Port.countMalformed := by
  rcases wrong with phase | contact
  · rw [State.completeReport, leadPhase_none phase]
  · rw [State.completeReport, leadContact_none contact]
    cases leadPhase lead <;> rfl

end

/-! ## Bytes at a panel -/

section
variable {s : State} {p : PortId} {c : RxChar} {f : LineFormat}

/-- The panel port once a character without a break is counted (R122). -/
def State.counted (s : State) (p : PortId) (c : RxChar) (f : LineFormat) : State :=
  s.setPort p { s.port p with
    rxOldFormats := [],
    counters := (s.port p).counters.countErrors (RxChar.parityError f c) (RxChar.framingError c) }

theorem exec_character_break (running : s.inReset = false) (isBreak : RxChar.isBreak ((s.port p).rxFormat c) c = true) :
    exec (.portCharacterReceived p c) s = .next ((s.mapPort p (fun x => { x with rxOldFormats := [] })).takeBreak p) := by
  refine (State.live_running _ running).trans (congrArg _ ?_)
  rw [State.takeCharacter]
  exact if_pos isBreak

theorem exec_character_panel (running : s.inReset = false) (panel : (s.port p).profile.kind = .panel)
    (format : f = (s.port p).rxFormat c) (noBreak : RxChar.isBreak f c = false) :
    exec (.portCharacterReceived p c) s =
      .next ((s.counted p c f).panelByte p c.data (RxChar.parityError f c || RxChar.framingError c)) := by
  refine (State.live_running _ running).trans (congrArg _ ?_)
  rw [State.takeCharacter, ← format]
  dsimp only
  rw [if_neg (Bool.eq_false_iff.1 noBreak), panel]
  simp only [State.mapPort, State.port_setPort_self, State.setPort_setPort]
  rfl

variable {t : State} {b : Byte}

theorem State.panelByte_elsewhere {error : Bool} (elsewhere : (t.port p).state ≠ .idle) : t.panelByte p b error = t :=
  if_neg elsewhere

theorem State.panelByte_error (idle : (t.port p).state = .idle) : t.panelByte p b true = t.mapPort p Port.damageReport :=
  (if_pos idle).trans (if_pos rfl)

theorem State.panelByte_byte (idle : (t.port p).state = .idle) : t.panelByte p b false = t.assembleByte p b :=
  (if_pos idle).trans (if_neg Bool.false_ne_true)

theorem Port.damageReport_waiting {x : Port} (waiting : x.assembler = .waiting) : x.damageReport = x := by
  rw [Port.damageReport, waiting]

theorem Port.damageReport_assembling {x : Port} {lead : Byte} {data : List Byte}
    (assembling : x.assembler = .assembling lead data) :
    x.damageReport = ({ x with assembler := .waiting } : Port).countMalformed := by
  rw [Port.damageReport, assembling]
  rfl

theorem State.mapPort_congr {f g : Port → Port} (same : f (t.port p) = g (t.port p)) : t.mapPort p f = t.mapPort p g := by
  rw [State.mapPort, same, State.mapPort]

theorem State.mapPort_eq_self {f : Port → Port} (same : f (t.port p) = t.port p) : t.mapPort p f = t := by
  rw [State.mapPort, same, State.setPort_port]

theorem Byte.msb_eq (b : Byte) : b.msb = b.getLsbD 7 := BitVec.msb_eq_getLsbD_last b

section
variable (waiting : (t.port p).assembler = .waiting)
include waiting

theorem State.assembleByte_lead (lead : b.getLsbD 7 = true) :
    t.assembleByte p b = t.mapPort p (fun x => { x with assembler := .assembling b [] }) := by
  rw [State.assembleByte, waiting]
  exact if_pos ((Byte.msb_eq b).trans lead)

theorem State.assembleByte_stray (data : b.getLsbD 7 = false) : t.assembleByte p b = t.mapPort p Port.countMalformed := by
  rw [State.assembleByte, waiting]
  exact if_neg (Bool.eq_false_iff.1 ((Byte.msb_eq b).trans data))

end

section
variable {lead : Byte} {data : List Byte} (assembling : (t.port p).assembler = .assembling lead data)
include assembling

theorem State.assembleByte_again (again : b.getLsbD 7 = true) : t.assembleByte p b =
    t.mapPort p (fun x => ({ x with assembler := .assembling b [] } : Port).countMalformed) := by
  rw [State.assembleByte, assembling]
  exact if_pos ((Byte.msb_eq b).trans again)

theorem State.assembleByte_data (byte : b.getLsbD 7 = false) : t.assembleByte p b = t.reportByte p lead data b := by
  rw [State.assembleByte, assembling]
  exact if_neg (Bool.eq_false_iff.1 ((Byte.msb_eq b).trans byte))

end

theorem State.reportByte_short {lead : Byte} {data : List Byte} (short : data.length < 3) :
    t.reportByte p lead data b = t.mapPort p (fun x => { x with assembler := .assembling lead (data ++ [b]) }) := by
  unfold State.reportByte
  split
  · next d1 d2 d3 => exact absurd short (Nat.lt_irrefl 3)
  · rfl

end

/-- Settles O45: a break, a byte by the state of the assembler, and the judgement of five bytes. -/
theorem touchReportsAreAssembled : Obligations.TouchReportsAreAssembled := by
  refine ⟨fun s u p c running panel isBreak at_ => ?_, fun s u p c f running panel format noBreak at_ => ?_,
    fun s p lead d1 d2 d3 d4 => ⟨State.completeReport_malformed, fun c ph x y number code hx hy => ?_⟩,
    fun n parity framing => rfl, fun x => rfl⟩
  · have breaks : exec (.portCharacterReceived p c) s =
        .next (if (s.port p).state = .idle then u.mapPort p Port.damageReport else u) := by
      rw [exec_character_break running isBreak, at_, State.takeBreak]
      simp only [State.mapPort, State.port_setPort_self, State.setPort_setPort, panel]
      split <;> rfl
    have assembler : (u.port p).assembler = (s.port p).assembler := by rw [at_, State.port_setPort_self]
    refine ⟨fun quiet => ?_, fun lead data idle assembling => ?_⟩
    · rw [breaks]
      refine congrArg _ ?_
      split
      · next idle =>
        refine State.mapPort_eq_self (Port.damageReport_waiting ?_)
        exact assembler.trans (quiet.resolve_left fun not => not idle)
      · rfl
    · rw [breaks, if_pos idle]
      exact congrArg _ (State.mapPort_congr (Port.damageReport_assembling (assembler.trans assembling)))
  · have event := exec_character_panel running panel format noBreak
    have counted : s.counted p c f = u := at_.symm
    have state : (u.port p).state = (s.port p).state := by rw [at_, State.port_setPort_self]
    have assembler : (u.port p).assembler = (s.port p).assembler := by rw [at_, State.port_setPort_self]
    rw [counted] at event
    have damaged (idle : (s.port p).state = .idle) (error : RxChar.parityError f c = true ∨ RxChar.framingError c = true) :
        exec (.portCharacterReceived p c) s = .next (u.mapPort p Port.damageReport) := by
      rw [event, (Bool.or_eq_true _ _).mpr error, State.panelByte_error (state.trans idle)]
    have clean (idle : (s.port p).state = .idle) (parity : RxChar.parityError f c = false)
        (framing : RxChar.framingError c = false) :
        exec (.portCharacterReceived p c) s = .next (u.assembleByte p c.data) := by
      rw [event, parity, framing]
      exact congrArg _ (State.panelByte_byte (state.trans idle))
    refine ⟨fun elsewhere => ?_, fun idle error waiting => ?_, fun lead data idle error assembling => ?_,
      fun idle parity framing waiting lead => ?_, fun idle parity framing waiting data => ?_,
      fun lead data idle parity framing assembling again => ?_,
      fun lead data idle parity framing assembling short byte => ?_,
      fun lead d1 d2 d3 idle parity framing assembling byte => ?_⟩
    · rw [event, State.panelByte_elsewhere fun idle => elsewhere (state.symm.trans idle)]
    · rw [damaged idle error, State.mapPort_eq_self (Port.damageReport_waiting (assembler.trans waiting))]
    · rw [damaged idle error]
      exact congrArg _ (State.mapPort_congr (Port.damageReport_assembling (assembler.trans assembling)))
    · rw [clean idle parity framing, State.assembleByte_lead (assembler.trans waiting) lead]
    · rw [clean idle parity framing, State.assembleByte_stray (assembler.trans waiting) data]
    · rw [clean idle parity framing, State.assembleByte_again (assembler.trans assembling) again]
    · rw [clean idle parity framing, State.assembleByte_data (assembler.trans assembling) byte,
        State.reportByte_short short]
    · rw [clean idle parity framing, State.assembleByte_data (assembler.trans assembling) byte]
      rfl
  · rw [State.completeReport, leadPhase_some code, leadContact_some number, coordFrom_eq hx, coordFrom_eq hy]
    rfl

end Sys2Proof.Machine
end

section
/-! PROOF. The transmitter of a port: its choice at a boundary (R117 to R119, R121), the levels of a character (R103), and
what a sent character leaves behind (R128 to R130). -/

namespace Sys2Proof.Machine

/-! ## The choice -/

/-- A transmitter at rest, in the format now in effect. -/
def Port.resting (x : Port) : Port := { x with tx := .rest, txBits := [], txFormat := x.profile.format }

theorem Port.choose_eq (x : Port) : x.choose =
    if x.profile.kind = .panel || x.state = .disabled then x.resting
    else match x.slot with
      | some c => Port.begin (.code (x.codeByte c)) (x.codeByte c) { x.resting with slot := none }
      | none =>
        match (if x.state.sends && x.permits then x.nextByte else none) with
        | some (b, d) => x.resting.begin (.job b d) d
        | none => x.resting := rfl

section
variable {x : Port}

theorem Port.choose_silent (silent : x.profile.kind = .panel ∨ x.state = .disabled) : x.choose = x.resting := by
  rw [Port.choose_eq]
  refine if_pos ?_
  rw [Bool.or_eq_true, decide_eq_true_eq, decide_eq_true_eq]
  exact silent

theorem Port.not_silent (job : x.profile.kind = .job) (enabled : x.state ≠ .disabled) :
    ¬(x.profile.kind = .panel || x.state = .disabled) = true := by
  rw [Bool.or_eq_true, decide_eq_true_eq, decide_eq_true_eq, job]
  rintro (panel | disabled)
  · cases panel
  · exact enabled disabled

theorem Port.choose_code {c : FlowCode} (job : x.profile.kind = .job) (enabled : x.state ≠ .disabled)
    (slot : x.slot = some c) : x.choose =
      { x.resting with slot := none, tx := .code (x.codeByte c), txBits := charBits x.profile.format (x.codeByte c) } := by
  rw [Port.choose_eq, if_neg (Port.not_silent job enabled), slot]
  rfl

theorem PortState.sends_iff (st : PortState) : st.sends = true ↔ st = .opened ∨ st = .closing := by
  cases st <;> simp [PortState.sends]

theorem Port.nextByte_head {b : BufId} {bs : List BufId} {o : OutBuf} {d : Byte} (order : x.fillOrder = b :: bs)
    (buffer : x.outb b = some o) (byte : o.bytes[o.sent]? = some d) : x.nextByte = some (b, d) := by
  rw [Port.nextByte, order]
  dsimp only
  rw [buffer, Option.bind_some, byte, Option.map_some]

theorem Port.choose_data {b : BufId} {d : Byte} (job : x.profile.kind = .job) (slot : x.slot = none)
    (sends : x.state = .opened ∨ x.state = .closing) (permits : x.permits = true) (next : x.nextByte = some (b, d)) :
    x.choose = { x.resting with tx := .job b d, txBits := charBits x.profile.format d } := by
  have enabled : x.state ≠ .disabled := by
    rcases sends with state | state <;> rw [state] <;> exact PortState.noConfusion
  rw [Port.choose_eq, if_neg (Port.not_silent job enabled), slot]
  dsimp only
  rw [(PortState.sends_iff _).2 sends, permits, next]
  rfl

/-- With nothing to send the transmitter rests. -/
theorem Port.choose_rest (slot : x.slot = none)
    (nothing : x.fillOrder = [] ∨ (x.state ≠ .opened ∧ x.state ≠ .closing) ∨ x.permits = false) :
    x.choose = x.resting := by
  have none : (if x.state.sends && x.permits then x.nextByte else .none) = .none := by
    rcases nothing with empty | idle | held
    · have next : x.nextByte = .none := by rw [Port.nextByte, empty]
      rw [next, ite_self]
    · have idle' : x.state.sends = false := by
        rw [Bool.eq_false_iff, ne_eq, PortState.sends_iff, not_or]
        exact idle
      rw [idle']
      rfl
    · rw [held, Bool.and_false]
      rfl
  rw [Port.choose_eq, slot, none]
  exact ite_self _

theorem Port.permits_of (lines : x.profile.flow = .lines → x.busyPin = false)
    (codes : x.profile.flow = .codes → x.flow = .running) : x.permits = true := by
  rw [← Bool.not_eq_false, Port.permits_eq_false]
  rintro (⟨flow, busy⟩ | ⟨flow, stopped⟩)
  · rw [lines flow] at busy
    cases busy
  · rw [codes flow] at stopped
    cases stopped

end

/-! ## The boundary -/

section
variable {s : State} {p : PortId}

theorem exec_characterSent {busy : Bool} (running : s.inReset = false) : exec (.portCharacterSent p busy) s =
    .next (((s.setPort p { s.port p with busyPin := busy }).characterDone p).mapPort p (fun x => x.choose.judge)) :=
  State.live_running _ running

theorem State.characterDone_noJob (none : ∀ (b : BufId) (d : Byte), (s.port p).tx ≠ .job b d) :
    s.characterDone p = s.setPort p { s.port p with tx := .rest } := by
  unfold State.characterDone
  dsimp only
  split
  · rfl
  · rfl
  · rfl
  · next b d job => exact absurd job (none b d)

theorem exec_characterSent_rest {busy : Bool} (running : s.inReset = false) (rest : (s.port p).tx = .rest) :
    exec (.portCharacterSent p busy) s = .next (s.setPort p ((s.port p).readBusy busy).choose.judge) := by
  have none : ∀ (b : BufId) (d : Byte), ((s.setPort p { s.port p with busyPin := busy }).port p).tx ≠ .job b d := by
    intro b d
    rw [State.port_setPort_self]
    dsimp only
    rw [rest]
    exact PortTx.noConfusion
  rw [exec_characterSent running, State.characterDone_noJob none, State.port_setPort_self, State.setPort_setPort,
    State.mapPort, State.port_setPort_self, State.setPort_setPort, ← rest]
  rfl

theorem exec_busyNegated (running : s.inReset = false) :
    exec (.busyNegated p) s = .next (s.setPort p (s.port p).busyNegated) :=
  State.live_running _ running

theorem Port.busyNegated_notes {x : Port} (other : x.profile.flow ≠ .lines ∨ x.tx ≠ .rest) :
    x.busyNegated = Port.judge { x with busyPin := false } := by
  refine congrArg Port.judge (if_neg ?_)
  rw [Bool.and_eq_true, decide_eq_true_eq, decide_eq_true_eq]
  rintro ⟨lines, rest⟩
  exact other.elim (· lines) (· rest)

theorem Port.busyNegated_chooses {x : Port} (lines : x.profile.flow = .lines) (rest : x.tx = .rest) :
    x.busyNegated = (x.readBusy false).choose.judge := by
  refine congrArg Port.judge (if_pos ?_)
  rw [Bool.and_eq_true, decide_eq_true_eq, decide_eq_true_eq]
  exact ⟨lines, rest⟩

end

/-! ## The levels of a character -/

theorem length_filter_dataBits (b : Byte) : ((dataBits b).filter id).length = onesOf b := by
  rw [dataBits, List.filter_map, List.length_map]
  rfl

theorem charBits_eq (f : LineFormat) (b : Byte) : charBits f b =
    [false] ++ dataBits b ++ (parityOf f.parity b).toList ++ (if f.stop = .one then [true] else [true, true]) := by
  have stops : (match f.stop with | .one => [true] | .two => [true, true]) =
      if f.stop = .one then [true] else [true, true] := by
    cases f.stop <;> rfl
  rw [charBits, ← stops]
  rfl

/-- The parity bit of a format with one makes the number of ones odd exactly under ODD (R103). -/
theorem parityOf_some {y : Parity} (b : Byte) (some_ : y ≠ .none) : ∃ q : Bool, parityOf y b = some q ∧
    (((dataBits b ++ [q]).filter id).length % 2 = 1 ↔ y = .odd) := by
  have ones (q : Bool) : ((dataBits b ++ [q]).filter id).length = onesOf b + if q then 1 else 0 := by
    rw [List.filter_append, List.length_append, length_filter_dataBits]
    cases q <;> rfl
  cases y with
  | none => exact absurd rfl some_
  | odd =>
    refine ⟨_, rfl, ?_⟩
    simp only [ones, beq_iff_eq, iff_true]
    split <;> omega
  | even =>
    refine ⟨_, rfl, ?_⟩
    simp only [ones, beq_iff_eq, reduceCtorEq, iff_false]
    split <;> omega

/-- Settles O43: the choice at rest, BUSY found negated, and the levels of a character. -/
theorem portTransmitterChooses : Obligations.PortTransmitterChooses := by
  refine ⟨fun s p busy x running rest x_ => ?_, fun s p running => ⟨?_, ?_, ?_⟩,
    fun f b data stops data_ stops_ => ?_, fun x => ⟨rfl, rfl⟩⟩
  · have rests : ((s.port p).readBusy busy).resting = x := by
      rw [x_, Port.resting, ← rest]
      rfl
    have sends {y : Port} (chosen : ((s.port p).readBusy busy).choose = y) :
        exec (.portCharacterSent p busy) s = .next (s.setPort p y.judge) := by
      rw [exec_characterSent_rest running rest, chosen]
    refine ⟨fun silent => sends ?_, fun c job enabled slot => sends ?_,
      fun b bs o d job slot state order buffer byte lines codes => sends ?_, fun slot nothing => sends ?_⟩
    · rw [← rests]
      exact Port.choose_silent silent
    · rw [← rests]
      exact Port.choose_code job enabled slot
    · rw [← rests]
      exact Port.choose_data job slot state (Port.permits_of lines codes)
        (Port.nextByte_head (x := (s.port p).readBusy busy) order buffer byte)
    · rw [← rests]
      refine Port.choose_rest slot ?_
      rcases nothing with empty | idle | held
      · exact .inl empty
      · exact .inr (.inl idle)
      · exact .inr (.inr (Port.permits_eq_false.2 held))
  · intro b bs o d job lines rest slot state order buffer byte
    rw [exec_busyNegated running, Port.busyNegated_chooses lines rest,
      Port.choose_data (x := (s.port p).readBusy false) job slot state
        (Port.permits_of (fun _ => rfl) fun codes => absurd (lines.symm.trans codes) Flow.noConfusion)
        (Port.nextByte_head (x := (s.port p).readBusy false) order buffer byte)]
    rfl
  · intro other
    rw [exec_busyNegated running, Port.busyNegated_notes other]
  · intro x lines rest x_
    have rests : ((s.port p).readBusy false).resting = x := by
      rw [x_, Port.resting, ← rest]
      rfl
    have sends {y : Port} (chosen : ((s.port p).readBusy false).choose = y) :
        exec (.busyNegated p) s = .next (s.setPort p y.judge) := by
      rw [exec_busyNegated running, Port.busyNegated_chooses lines rest, chosen]
    refine ⟨fun silent => sends ?_, fun slot nothing => sends ?_, fun c job enabled slot => sends ?_⟩
    · rw [← rests]
      exact Port.choose_silent silent
    · rw [← rests]
      refine Port.choose_rest slot ?_
      rcases nothing with empty | idle
      · exact .inl empty
      · exact .inr (.inl idle)
    · rw [← rests]
      exact Port.choose_code job enabled slot
  · have bits : dataBits b = data := data_.symm
    rw [charBits_eq, ← stops_, bits]
    refine ⟨fun none => ?_, fun some_ => ?_⟩
    · rw [none]
      simp [parityOf]
    · obtain ⟨q, parity, ones⟩ := parityOf_some b some_
      rw [bits] at ones
      exact ⟨q, by rw [parity]; rfl, ones⟩

end Sys2Proof.Machine
end

section
/-! PROOF. A character of job data sent (R128 to R130), and the notices that a change of port state leaves (R53, R56). -/

namespace Sys2Proof.Machine

/-! ## Notices beside a change of port state -/

section
variable {s : State} {p : PortId} {k : LinkId} {m : Notice}

/-- A notice of another kind entered leaves a notice where it is, or where it is not. -/
theorem State.mem_enterNotice_other {n : Notice} {j : LinkId}
    (kind : n.body.rank = 2 ∨ n.body.rank = 3 ∨ n.body.rank = 4 ∨ n.body.rank = 8) (other : m.body.rank ≠ n.body.rank) :
    m ∈ ((s.enterNotice j n).link k).notices ↔ m ∈ (s.link k).notices := by
  rw [State.link_enterNotice]
  split
  · next here =>
    obtain ⟨rfl, -⟩ := here
    obtain ⟨body, r, tag⟩ := n
    rw [mem_mergeNotice_replaces kind]
    constructor
    · rintro (rfl | ⟨pending, -⟩)
      · exact absurd rfl other
      · exact pending
    · exact fun pending => .inr ⟨pending, fun _ => other⟩
  · rfl

/-- A change of port state touches PORT_STATE notices only (R56). -/
theorem State.mem_setPortState (st : PortState) (other : m.body.rank ≠ 8) :
    m ∈ ((s.setPortState p st).link k).notices ↔ m ∈ (s.link k).notices := by
  rw [State.setPortState_eq]
  split
  · rfl
  · exact State.mem_enterNotice_other (.inr (.inr (.inr rfl))) other

theorem State.mem_enterNotice_self {b : NoticeBody} {r : Resource} {tag : Byte}
    (kind : b.rank = 2 ∨ b.rank = 3 ∨ b.rank = 4 ∨ b.rank = 8) (up : (s.link k).up = true) :
    (⟨b, r, tag⟩ : Notice) ∈ ((s.enterNotice k ⟨b, r, tag⟩).link k).notices := by
  rw [State.link_enterNotice, if_pos ⟨rfl, up⟩]
  exact (mem_mergeNotice_replaces kind).2 (.inl rfl)

theorem State.notices_handLast (s : State) (p : PortId) (k : LinkId) :
    ((s.handLast p).link k).notices = (s.link k).notices := by
  unfold State.handLast
  split
  · split
    · rfl
    · rw [State.handTo, State.link_of_mapPort, State.link_mapLink]
      split
      · next same => rw [same]
      · rfl
  · rfl
  · rfl

/-! ## The end of a job with a turnaround -/

theorem State.jobEnded_turns (turnaround : (s.port p).profile.turnaround ≠ 0) :
    s.endJob p = ((s.jobEnded p).setPortState p .settling).mapPort p (fun x =>
      { x with turnTimer := some ((s.jobEnded p).port p).profile.turnaround.toNat }) := by
  rw [State.endJob_eq_settling]
  refine State.enterSettling_turns ?_
  rw [(s.ended_jobEnded p).profile]
  exact turnaround

theorem State.endJob_settles (turnaround : (s.port p).profile.turnaround ≠ 0) :
    (s.endJob p).lease (.port p) = .free ∧ ((s.endJob p).port p).state = .settling := by
  rw [State.jobEnded_turns turnaround]
  refine ⟨?_, ?_⟩
  · rw [State.lease_mapPort, State.lease_setPortState, State.lease_jobEnded_self]
  · rw [State.port_mapPort_self, State.port_setPortState_self]

theorem State.mem_endJob (turnaround : (s.port p).profile.turnaround ≠ 0) (other : m.body.rank ≠ 8) :
    m ∈ ((s.endJob p).link k).notices ↔ m ∈ (s.link k).notices := by
  have ended : ((s.jobEnded p).link k).notices = (s.link k).notices := by
    rw [State.jobEnded, State.link_setLease, State.link_of_mapPort, State.notices_handLast]
  rw [State.jobEnded_turns turnaround, State.link_of_mapPort, State.mem_setPortState _ other, ended]

end

/-! ## A buffer drained -/

section
variable {s : State} {p : PortId} {b : BufId} {d : Byte} {o : OutBuf}

/-- The port after the last byte of buffer b: the buffer is free, and the credit rises (R129). -/
def Port.drained (b : BufId) (x : Port) : Port := ({ x with tx := .rest } : Port).freeOut b

theorem Port.outb_drained (x : Port) (b : BufId) : (x.drained b).outb b = none := Port.outb_setOutb _ b none

theorem Port.drained_eq (x : Port) (b : BufId) :
    (x.drained b).credit = x.credit + 1 ∧ (x.drained b).fillOrder = x.fillOrder.filter (fun y => !(y == b)) ∧
      (x.drained b).state = x.state ∧ (x.drained b).profile = x.profile ∧ (x.drained b).tx = .rest := by
  cases b <;> exact ⟨rfl, rfl, rfl, rfl, rfl⟩

theorem Port.outb_judge (x : Port) (b : BufId) : x.judge.outb b = x.outb b := by
  cases b
  · exact x.o0_judge
  · exact x.o1_judge

/-- The part after the buffer is drained and its credit told (R129, R130). -/
def State.credited (s : State) (p : PortId) (b : BufId) : State :=
  (s.mapPort p (Port.drained b)).noticeCredit p

theorem State.port_noticeCredit (s : State) (p q : PortId) : (s.noticeCredit p).port q = s.port q := by
  unfold State.noticeCredit
  split
  · exact s.port_enterNotice _ _ q
  · rfl
  · rfl

theorem State.lease_noticeCredit (s : State) (p : PortId) (r : Resource) : (s.noticeCredit p).lease r = s.lease r := by
  unfold State.noticeCredit
  split
  · exact s.lease_enterNotice _ _ r
  · rfl
  · rfl

theorem State.port_credited (s : State) (p : PortId) (b : BufId) : (s.credited p b).port p = (s.port p).drained b := by
  rw [State.credited, State.port_noticeCredit, State.port_mapPort_self]

theorem State.lease_credited (s : State) (p : PortId) (b : BufId) (r : Resource) :
    (s.credited p b).lease r = s.lease r := by
  rw [State.credited, State.lease_noticeCredit, State.lease_mapPort]

variable (sent : (s.port p).tx = .job b d) (buffer : (s.port p).outb b = some o)
include sent buffer

theorem State.characterDone_job : s.characterDone p =
    if o.sent + 1 < o.bytes.length then (s.mapPort p (fun x => { x with tx := .rest })).mapPort p (Port.advance b o)
    else (s.mapPort p (fun x => { x with tx := .rest })).drain p b := by
  rw [State.characterDone, sent]
  dsimp only
  rw [buffer]

theorem State.characterDone_advances (more : o.sent + 1 < o.bytes.length) : s.characterDone p =
    s.setPort p (Port.setOutb { s.port p with tx := .rest } b (some ⟨o.bytes, o.sent + 1⟩)) := by
  rw [State.characterDone_job sent buffer, if_pos more, State.mapPort, State.mapPort, State.port_setPort_self,
    State.setPort_setPort]
  rfl

theorem State.characterDone_last (last : o.bytes.length ≤ o.sent + 1) : s.characterDone p =
    if (s.port p).state = .closing && ((s.port p).drained b).fillOrder.isEmpty then (s.credited p b).completeDrain p
    else (s.credited p b).mapPort p Port.judge := by
  have credited : ((s.mapPort p (fun x => { x with tx := .rest })).mapPort p (Port.freeOut b)).noticeCredit p =
      s.credited p b := by
    rw [State.credited, State.mapPort, State.mapPort, State.port_setPort_self, State.setPort_setPort]
    rfl
  rw [State.characterDone_job sent buffer, if_neg (Nat.not_lt.2 last), State.drain]
  rw [credited, State.port_credited, ((s.port p).drained_eq b).2.2.1]

/-- A job that stays open or has more to send goes on (R129). -/
theorem State.characterDone_goesOn (last : o.bytes.length ≤ o.sent + 1)
    (open_ : (s.port p).state ≠ .closing ∨ (s.port p).fillOrder.filter (fun y => !(y == b)) ≠ []) :
    s.characterDone p = (s.credited p b).mapPort p Port.judge := by
  obtain ⟨-, order, -, -, -⟩ := (s.port p).drained_eq b
  rw [State.characterDone_last sent buffer last, order]
  refine if_neg ?_
  rw [Bool.and_eq_true, decide_eq_true_eq, List.isEmpty_iff]
  rintro ⟨closing, empty⟩
  exact open_.elim (· closing) (· empty)

/-- A CLOSING job with nothing left completes its drain (R90, R131). -/
theorem State.characterDone_completes (last : o.bytes.length ≤ o.sent + 1) (closing : (s.port p).state = .closing)
    (empty : (s.port p).fillOrder.filter (fun y => !(y == b)) = []) :
    s.characterDone p = (s.credited p b).completeDrain p := by
  obtain ⟨-, order, -, -, -⟩ := (s.port p).drained_eq b
  rw [State.characterDone_last sent buffer last, order]
  refine if_pos ?_
  rw [Bool.and_eq_true, decide_eq_true_eq, List.isEmpty_iff]
  exact ⟨closing, empty⟩

end

theorem State.completeDrain_tells {s : State} {p : PortId} {h : Holding} (holding : (s.lease (.port p)).holding = some h) :
    s.completeDrain p = (s.enterNotice h.link ⟨.released, .port p, h.tag⟩).endJob p := by
  rw [State.completeDrain, holding]

/-- Settles O44: the event, the byte by its place in the buffer, and the completion of a drain. -/
theorem characterSentAdvancesOrDrains : Obligations.CharacterSentAdvancesOrDrains := by
  refine ⟨fun s p busy running => exec_characterSent running,
    fun s p b d o sent buffer => ⟨State.characterDone_advances sent buffer, fun last open_ => ?_,
      fun h last closing empty releasing => ?_⟩,
    fun s p none => State.characterDone_noJob none⟩
  · obtain ⟨credit, order, state, -, -⟩ := (s.port p).drained_eq b
    rw [State.characterDone_goesOn sent buffer last open_, State.port_mapPort_self, State.port_credited]
    refine ⟨?_, ?_, ?_, ?_, fun r => ?_, fun h held up => ?_, fun h releasing => ?_⟩
    · rw [Port.outb_judge, Port.outb_drained]
    · rw [Port.credit_judge, credit]
    · rw [Port.fillOrder_judge, order]
    · rw [Port.state_judge, state]
    · rw [State.lease_mapPort, State.lease_credited]
    · have lease : (s.mapPort p (Port.drained b)).lease (.port p) = .held h := held
      rw [State.link_of_mapPort, State.credited, State.noticeCredit, lease]
      dsimp only
      rw [State.link_enterNotice, if_pos ⟨rfl, up⟩]
      rfl
    · have lease : (s.mapPort p (Port.drained b)).lease (.port p) = .releasing h := releasing
      rw [State.links_mapPort, State.credited, State.noticeCredit, lease]
      rfl
  · obtain ⟨credit, -, state, profile, tx⟩ := (s.port p).drained_eq b
    have lease : (s.credited p b).lease (.port p) = .releasing h := (s.lease_credited p b _).trans releasing
    have drains : s.characterDone p =
        ((s.credited p b).enterNotice h.link ⟨.released, .port p, h.tag⟩).endJob p := by
      rw [State.characterDone_completes sent buffer last closing empty]
      exact State.completeDrain_tells (by rw [lease]; rfl)
    have port : ((s.credited p b).enterNotice h.link ⟨.released, .port p, h.tag⟩).port p = (s.port p).drained b := by
      rw [State.port_enterNotice, State.port_credited]
    have turns (turnaround : (s.port p).profile.turnaround ≠ 0) :
        (((s.credited p b).enterNotice h.link ⟨.released, .port p, h.tag⟩).port p).profile.turnaround ≠ 0 := by
      rw [port, profile]
      exact turnaround
    refine ⟨(s.credited p b).enterNotice h.link ⟨.released, .port p, h.tag⟩, drains, fun turnaround => ?_, ?_, ?_, ?_, ?_,
      fun r => ?_, fun up => ?_⟩
    · rw [drains]
      exact State.endJob_settles (turns turnaround)
    · rw [port, state, closing]
    · rw [port, Port.outb_drained]
    · rw [port, credit]
    · rw [port, tx]
    · rw [State.lease_enterNotice, State.lease_credited]
    · have links : (s.credited p b).link h.link = s.link h.link := by
        have same : (s.mapPort p (Port.drained b)).lease (.port p) = .releasing h := releasing
        rw [State.credited, State.noticeCredit, same]
        rfl
      have up' : ((s.credited p b).link h.link).up = true := by
        rw [links]
        exact up
      have told : (⟨.released, .port p, h.tag⟩ : Notice) ∈
          (((s.credited p b).enterNotice h.link ⟨.released, .port p, h.tag⟩).link h.link).notices :=
        State.mem_enterNotice_self (.inr (.inl rfl)) up'
      refine ⟨told, fun turnaround => ?_⟩
      rw [drains]
      exact (State.mem_endJob (turns turnaround) (show NoticeBody.released.rank ≠ 8 by decide)).2 told

end Sys2Proof.Machine
end

section
/-! PROOF. A cut (R115, R141) and a revoke of a port's lease (R97, R114, R116). -/

namespace Sys2Proof.Machine

/-! ## The frame in transmission -/

section
variable {l : Link} {p : PortId} {b : BufId}

theorem Link.transmits_iff : l.transmits p b = true ↔
    ∃ (f : Frame) (w : List Byte) (e : DataEntry) (es : List DataEntry),
      l.tx = .sending f w .data ∧ l.dataQ = e :: es ∧ e.port = p ∧ e.buf = b := by
  unfold Link.transmits
  split
  · next f w e es tx data =>
    rw [Bool.and_eq_true, beq_iff_eq, beq_iff_eq]
    constructor
    · exact fun here => ⟨f, w, e, es, tx, data, here⟩
    · rintro ⟨_, _, e', _, _, data', here⟩
      rw [data] at data'
      obtain ⟨rfl, -⟩ := List.cons.inj data'
      exact here
  · next other =>
    simp only [Bool.false_eq_true, false_iff]
    rintro ⟨f, w, e, es, tx, data, -⟩
    exact other f w e es tx data

/-- The entries other than those of buffer b of port p. -/
def Link.withoutEntry (p : PortId) (b : BufId) (l : Link) : Link :=
  { l with dataQ := l.dataQ.filter (fun e => !(e.port == p && e.buf == b)) }

/-- Taking back an entry that is not in transmission leaves the head of a queue in transmission. -/
theorem Link.transmits_withoutEntry (c : BufId) (idle : l.transmits p b = false) :
    (l.withoutEntry p b).transmits p c = l.transmits p c := by
  rw [Bool.eq_iff_iff, Link.transmits_iff, Link.transmits_iff]
  constructor
  · rintro ⟨f, w, e, es, tx, data, port, buf⟩
    cases queue : l.dataQ with
    | nil =>
      rw [Link.withoutEntry, queue] at data
      cases data
    | cons first rest =>
      have other : ¬(first.port = p ∧ first.buf = b) := fun here =>
        Bool.eq_false_iff.1 idle (Link.transmits_iff.2 ⟨f, w, first, rest, tx, queue, here.1, here.2⟩)
      have kept : (l.withoutEntry p b).dataQ =
          first :: rest.filter (fun e => !(e.port == p && e.buf == b)) := by
        rw [Link.withoutEntry, queue]
        exact List.filter_cons_of_pos (p := fun e : DataEntry => !(e.port == p && e.buf == b)) (by simpa using not_and_or.1 other)
      rw [kept] at data
      obtain ⟨rfl, -⟩ := List.cons.inj data
      exact ⟨f, w, first, rest, tx, rfl, port, buf⟩
  · rintro ⟨f, w, e, es, tx, data, port, buf⟩
    have other : ¬(e.port = p ∧ e.buf = b) := fun here =>
      Bool.eq_false_iff.1 idle (Link.transmits_iff.2 ⟨f, w, e, es, tx, data, here.1, here.2⟩)
    refine ⟨f, w, e, es.filter (fun e => !(e.port == p && e.buf == b)), tx, ?_, port, buf⟩
    rw [Link.withoutEntry, data]
    exact List.filter_cons_of_pos (p := fun e : DataEntry => !(e.port == p && e.buf == b)) (by simpa using not_and_or.1 other)

end

/-! ## One inbound buffer cut -/

/-- What a cut makes of an inbound buffer, before it leaves the job (R115, R141). -/
def State.cutBuf (s : State) (p : PortId) (b : BufId) : InBuf :=
  match (s.port p).inb b with
  | .free => .free
  | .filling _ => .free
  | .handed bytes k job => if job && !(s.link k).transmits p b then .free else .handed bytes k job

/-- The entry of buffer b of port p is taken back from link k by a cut. -/
def State.Recalls (s : State) (p : PortId) (b : BufId) (k : LinkId) : Prop :=
  ∃ bytes : List Byte, (s.port p).inb b = .handed bytes k true ∧ (s.link k).transmits p b = false

theorem Port.setInb_same (x : Port) (b : BufId) : x.setInb b (x.inb b) = x := by cases b <;> rfl

section
variable (s : State) (p : PortId)

theorem State.port_cutInbound (b : BufId) : (s.cutInbound p b).port p = (s.port p).setInb b (s.cutBuf p b) := by
  have stays {i : InBuf} (same : (s.port p).inb b = i) : s.port p = (s.port p).setInb b i := by
    rw [← same, Port.setInb_same]
  cases inb : (s.port p).inb b with
  | free =>
    have buf : s.cutBuf p b = .free := by rw [State.cutBuf, inb]
    have same : s.cutInbound p b = s := by rw [State.cutInbound, inb]
    rw [buf, same]
    exact stays inb
  | filling bytes =>
    have buf : s.cutBuf p b = .free := by rw [State.cutBuf, inb]
    have freed : s.cutInbound p b = s.mapPort p (fun x => x.setInb b .free) := by rw [State.cutInbound, inb]
    rw [buf, freed, State.port_mapPort_self]
  | handed bytes k job =>
    unfold State.cutInbound State.cutBuf
    simp only [inb]
    split
    · rw [State.port_mapPort_self]
      rfl
    · exact stays inb

/-- A cut of a buffer takes back its entry, or leaves every link as it is. -/
theorem State.link_cutInbound (b : BufId) (k : LinkId) :
    (s.Recalls p b k ∧ (s.cutInbound p b).link k = (s.link k).withoutEntry p b) ∨
      (¬s.Recalls p b k ∧ (s.cutInbound p b).link k = s.link k) := by
  unfold State.cutInbound
  split
  · next free =>
    refine .inr ⟨?_, rfl⟩
    rintro ⟨bytes, handed, -⟩
    rw [free] at handed
    cases handed
  · next filling =>
    refine .inr ⟨?_, rfl⟩
    rintro ⟨bytes, handed, -⟩
    rw [filling] at handed
    cases handed
  · next bytes j job handed =>
    split
    · next recalled =>
      rw [Bool.and_eq_true, Bool.not_eq_true'] at recalled
      obtain ⟨rfl, idle⟩ := recalled
      rw [State.link_of_mapPort, State.link_mapLink]
      split
      · next same =>
        subst same
        exact .inl ⟨⟨bytes, handed, idle⟩, rfl⟩
      · next other =>
        refine .inr ⟨?_, rfl⟩
        rintro ⟨bytes', handed', -⟩
        rw [handed] at handed'
        obtain ⟨-, rfl, -⟩ := InBuf.handed.inj handed'
        exact other rfl
    · next stays =>
      refine .inr ⟨?_, rfl⟩
      rintro ⟨bytes', handed', idle⟩
      rw [handed] at handed'
      obtain ⟨-, rfl, rfl⟩ := InBuf.handed.inj handed'
      exact stays (by rw [idle]; rfl)

theorem State.transmits_cutInbound (b c : BufId) (k : LinkId) :
    ((s.cutInbound p b).link k).transmits p c = (s.link k).transmits p c := by
  rcases s.link_cutInbound p b k with ⟨⟨-, -, idle⟩, same⟩ | ⟨-, same⟩
  · rw [same, Link.transmits_withoutEntry c idle]
  · rw [same]

theorem State.mem_cutInbound (b : BufId) (k : LinkId) (e : DataEntry) : e ∈ ((s.cutInbound p b).link k).dataQ ↔
    e ∈ (s.link k).dataQ ∧ ¬(s.Recalls p b k ∧ e.port = p ∧ e.buf = b) := by
  rcases s.link_cutInbound p b k with ⟨recalls, same⟩ | ⟨stays, same⟩
  · rw [same]
    simp only [Link.withoutEntry, recalls, List.mem_filter, Bool.not_eq_true', Bool.and_eq_false_iff, beq_eq_false_iff_ne]
    tauto
  · rw [same]
    simp [stays]

theorem State.notices_cutInbound (b : BufId) (k : LinkId) :
    ((s.cutInbound p b).link k).notices = (s.link k).notices := by
  rcases s.link_cutInbound p b k with ⟨-, same⟩ | ⟨-, same⟩
  · rw [same]
    rfl
  · rw [same]

/-- The second buffer is cut as it would have been first. -/
theorem State.cutBuf_second : (s.cutInbound p .b0).cutBuf p .b1 = s.cutBuf p .b1 := by
  have inb : ((s.cutInbound p .b0).port p).inb .b1 = (s.port p).inb .b1 := by rw [State.port_cutInbound]; rfl
  rw [State.cutBuf, inb, State.cutBuf]
  split
  · rfl
  · rfl
  · rw [State.transmits_cutInbound]

theorem State.recalls_second (k : LinkId) : (s.cutInbound p .b0).Recalls p .b1 k ↔ s.Recalls p .b1 k := by
  have inb : ((s.cutInbound p .b0).port p).inb .b1 = (s.port p).inb .b1 := by rw [State.port_cutInbound]; rfl
  rw [State.Recalls, inb, State.transmits_cutInbound, State.Recalls]

/-! ## The cut -/

/-- A port whose job is cut, with what became of its inbound buffers (R115, R141). -/
def Port.cutOff (i0 i1 : InBuf) (x : Port) : Port :=
  Port.mapCounters { ({ x with i0 := i0, i1 := i1 } : Port).closeJob with tx := x.tx.orphan }
    (fun c => { c with jobsCut := bump c.jobsCut })

theorem State.port_cut : (s.cut p).port p = (s.port p).cutOff (s.cutBuf p .b0) (s.cutBuf p .b1) := by
  rw [State.cut, State.port_mapPort_self, State.port_cutInbound, State.cutBuf_second, State.port_cutInbound]
  rfl

theorem State.inb_cut (b : BufId) : ((s.cut p).port p).inb b = (s.cutBuf p b).leaveJob := by
  have closed := Port.inb_closeJob { s.port p with i0 := s.cutBuf p .b0, i1 := s.cutBuf p .b1 } b
  rw [State.port_cut]
  cases b <;> exact closed

/-- What remains in the data queues after a cut. -/
theorem State.mem_cut (k : LinkId) (e : DataEntry) : e ∈ ((s.cut p).link k).dataQ ↔
    e ∈ (s.link k).dataQ ∧ ¬(s.Recalls p e.buf k ∧ e.port = p) := by
  rw [State.cut, State.link_of_mapPort, State.mem_cutInbound, State.mem_cutInbound, State.recalls_second]
  cases buf : e.buf <;> simp

theorem State.notices_cut (k : LinkId) : ((s.cut p).link k).notices = (s.link k).notices := by
  rw [State.cut, State.link_of_mapPort, State.notices_cutInbound, State.notices_cutInbound]

end

/-- What a cut leaves of a port, but for its inbound buffers. -/
structure Port.CutFrom (x y : Port) : Prop where
  o0 : y.o0 = none
  o1 : y.o1 = none
  fillOrder : y.fillOrder = []
  credit : y.credit = 0
  frameSize : y.frameSize = none
  graceTimer : y.graceTimer = none
  stallTimer : y.stallTimer = none
  idleTimer : y.idleTimer = none
  gatherTimer : y.gatherTimer = none
  remembered : y.remembered = none
  paused : y.paused = false
  flow : y.flow = x.flow
  tx : y.tx = x.tx.orphan
  counters : y.counters = { x.counters with jobsCut := bump x.counters.jobsCut }

theorem Port.cutFrom_cutOff (x : Port) (i0 i1 : InBuf) : x.CutFrom (x.cutOff i0 i1) := by
  obtain ⟨hold, slot, e⟩ := Port.closeJob_eq { x with i0 := i0, i1 := i1 }
  rw [Port.cutOff, e]
  exact ⟨rfl, rfl, rfl, rfl, rfl, rfl, rfl, rfl, rfl, rfl, rfl, rfl, rfl, rfl⟩

theorem State.cutFrom_cut (s : State) (p : PortId) : (s.port p).CutFrom ((s.cut p).port p) := by
  rw [State.port_cut]
  exact Port.cutFrom_cutOff _ _ _

/-! ## The revoke -/

/-- The part as a revoke leaves the port, before its next state (R97). -/
def State.revoked (s : State) (p : PortId) (h : Holding) (why : RevokeReason) : State :=
  ((s.cut p).setLease (.port p) .free).noticeRevoked (.port p) h why

section
variable {s : State} {p : PortId} {h : Holding} {why : RevokeReason}

theorem State.revokePort_held (holding : (s.lease (.port p)).holding = some h) :
    s.revokePort p why = (s.revoked p h why).afterRevoke p why := by
  rw [State.revokePort, holding]
  rfl

theorem State.port_noticeRevoked (s : State) (r : Resource) (h : Holding) (why : RevokeReason) (q : PortId) :
    (s.noticeRevoked r h why).port q = s.port q := by
  unfold State.noticeRevoked
  split
  · exact s.port_enterNotice _ _ q
  · rfl

theorem State.lease_noticeRevoked (s : State) (r : Resource) (h : Holding) (why : RevokeReason) (q : Resource) :
    (s.noticeRevoked r h why).lease q = s.lease q := (s.keepsAt_noticeRevoked q r h why).lease

theorem State.port_revoked : (s.revoked p h why).port p = (s.cut p).port p := by
  rw [State.revoked, State.port_noticeRevoked, State.port_setLease]

theorem State.lease_revoked : (s.revoked p h why).lease (.port p) = .free := by
  rw [State.revoked, State.lease_noticeRevoked, State.lease_setLease_self]

theorem State.worked_revoked : s.Worked (s.revoked p h why) :=
  ((s.worked_cut p).trans (State.worked_setLease _ _ _)).trans (State.worked_noticeRevoked _ _ _ _)

theorem State.isReady_revoked : ((s.revoked p h why).port p).isReady = (s.port p).isReady :=
  State.worked_revoked.isReady p

theorem State.turnaround_revoked :
    ((s.revoked p h why).port p).profile.turnaround = (s.port p).profile.turnaround :=
  congrArg PortProfile.turnaround (State.worked_revoked.profile p)

/-- The causes that send a port to SETTLING or OFFLINE by its readiness (R114). -/
def RevokeReason.Settles (why : RevokeReason) : Prop :=
  why = .cause .idle ∨ why = .cause .stall ∨ why = .cause .managed ∨ why = .linkDown

theorem State.afterRevoke_settles (settles : why.Settles) (t : State) : t.afterRevoke p why = t.afterCut p := by
  rcases settles with rfl | rfl | rfl | rfl <;> rfl

theorem State.afterRevoke_offline (line : why = .cause .fault ∨ why = .cause .offline) (t : State) :
    t.afterRevoke p why = t.setPortState p .offline := by
  rcases line with rfl | rfl <;> rfl

theorem RevokeReason.cases (why : RevokeReason) :
    why.Settles ∨ (why = .cause .fault ∨ why = .cause .offline) ∨ why = .cause .disabled := by
  rcases why with (_ | _ | _ | _ | _ | _) | _ <;> simp [RevokeReason.Settles]

theorem State.revokePort_ready (holding : (s.lease (.port p)).holding = some h) (settles : why.Settles)
    (ready : (s.port p).isReady = true) : s.revokePort p why = (s.revoked p h why).enterSettling p := by
  rw [State.revokePort_held holding, State.afterRevoke_settles settles]
  exact if_pos (State.isReady_revoked.trans ready)

theorem State.revokePort_notReady (holding : (s.lease (.port p)).holding = some h) (settles : why.Settles)
    (notReady : (s.port p).isReady = false) : s.revokePort p why = (s.revoked p h why).setPortState p .offline := by
  rw [State.revokePort_held holding, State.afterRevoke_settles settles]
  exact if_neg (Bool.eq_false_iff.1 (State.isReady_revoked.trans notReady))

theorem State.revokePort_line (holding : (s.lease (.port p)).holding = some h)
    (line : why = .cause .fault ∨ why = .cause .offline) :
    s.revokePort p why = (s.revoked p h why).setPortState p .offline := by
  rw [State.revokePort_held holding, State.afterRevoke_offline line]

theorem State.revokePort_disabled (holding : (s.lease (.port p)).holding = some h) :
    s.revokePort p (.cause .disabled) = s.revoked p h (.cause .disabled) := by
  rw [State.revokePort_held holding]
  rfl

/-- With a turnaround a revoked port changes its state and perhaps its turnaround timer, and nothing else (R114). -/
theorem State.revokePort_turns (holding : (s.lease (.port p)).holding = some h)
    (turnaround : (s.port p).profile.turnaround ≠ 0) : s.revokePort p why = s.revoked p h why ∨
      s.revokePort p why = (s.revoked p h why).setPortState p .offline ∨
      s.revokePort p why = ((s.revoked p h why).setPortState p .settling).mapPort p (fun x =>
        { x with turnTimer := some ((s.revoked p h why).port p).profile.turnaround.toNat }) := by
  rcases why.cases with settles | line | rfl
  · cases ready : (s.port p).isReady with
    | true =>
      right; right
      rw [State.revokePort_ready holding settles ready]
      refine State.enterSettling_turns ?_
      rw [State.turnaround_revoked]
      exact turnaround
    | false => exact .inr (.inl (State.revokePort_notReady holding settles ready))
  · exact .inr (.inl (State.revokePort_line holding line))
  · exact .inl (State.revokePort_disabled holding)

/-- What a revoke leaves of the port and of the pending notices, with a turnaround. -/
theorem State.revokePort_leaves (holding : (s.lease (.port p)).holding = some h)
    (turnaround : (s.port p).profile.turnaround ≠ 0) : (s.revokePort p why).lease (.port p) = .free ∧
      (∃ (st : PortState) (select : Bool) (timer : Option Nat), (s.revokePort p why).port p =
        { (s.cut p).port p with state := st, select := select, turnTimer := timer }) ∧
      ∀ (k : LinkId) (n : Notice), n.body.rank ≠ 8 →
        (n ∈ ((s.revokePort p why).link k).notices ↔ n ∈ ((s.revoked p h why).link k).notices) := by
  rcases s.revokePort_turns (why := why) holding turnaround with e | e | e
  · rw [e]
    exact ⟨State.lease_revoked, ⟨_, _, _, State.port_revoked⟩, fun k n _ => Iff.rfl⟩
  · rw [e]
    refine ⟨?_, ⟨.offline, PortState.isJob .offline, ((s.cut p).port p).turnTimer, ?_⟩,
      fun k n other => State.mem_setPortState _ other⟩
    · rw [State.lease_setPortState, State.lease_revoked]
    · rw [State.port_setPortState_self, State.port_revoked]
  · rw [e]
    refine ⟨?_, ⟨.settling, PortState.isJob .settling,
      some ((s.revoked p h why).port p).profile.turnaround.toNat, ?_⟩, fun k n other => ?_⟩
    · rw [State.lease_mapPort, State.lease_setPortState, State.lease_revoked]
    · rw [State.port_mapPort_self, State.port_setPortState_self, State.port_revoked]
    · rw [State.link_of_mapPort, State.mem_setPortState _ other]

theorem State.state_revokePort_settles (holding : (s.lease (.port p)).holding = some h)
    (turnaround : (s.port p).profile.turnaround ≠ 0) (settles : why.Settles) :
    ((s.revokePort p why).port p).state = if (s.port p).isReady then .settling else .offline := by
  cases ready : (s.port p).isReady with
  | true =>
    have turns : ((s.revoked p h why).port p).profile.turnaround ≠ 0 := by
      rw [State.turnaround_revoked]
      exact turnaround
    rw [State.revokePort_ready holding settles ready, State.enterSettling_turns turns, State.port_mapPort_self,
      State.port_setPortState_self]
    rfl
  | false =>
    rw [State.revokePort_notReady holding settles ready, State.port_setPortState_self]
    rfl

theorem State.mem_revoked_told {c : Cause} (up : (s.link h.link).up = true) :
    (⟨.revoked c, .port p, h.tag⟩ : Notice) ∈ ((s.revoked p h (.cause c)).link h.link).notices := by
  have up' : (((s.cut p).setLease (.port p) .free).link h.link).up = true := by
    rw [((s.worked_cut p).trans (State.worked_setLease _ _ _)).up]
    exact up
  show _ ∈ ((State.enterNotice _ _ _).link _).notices
  rw [State.link_enterNotice, if_pos ⟨rfl, up'⟩]
  exact (mem_mergeNotice_revoked c).2 (.inl rfl)

end

/-- Settles O38: the revoke by its cause, the port and the data queues after a cut, and the frame in transmission. -/
theorem revokeCutsTheJob : Obligations.RevokeCutsTheJob := by
  refine ⟨⟨fun s p why free => ?_, fun s p why h holding turnaround => ?_,
      fun s p why h holding => ⟨fun settles ready => State.revokePort_ready holding settles ready, fun offline => ?_,
        fun disabled => ?_⟩⟩,
    fun s p => ?_, fun l p b => Link.transmits_iff, fun s r h => ⟨rfl, fun c => rfl⟩, fun b d tx => ⟨rfl, fun other => ?_⟩⟩
  · rw [State.revokePort, free]
    rfl
  · obtain ⟨lease, ⟨st, select, timer, port⟩, notices⟩ := s.revokePort_leaves (why := why) holding turnaround
    have cut := s.cutFrom_cut p
    refine ⟨lease, ?_, ?_, ?_, ?_, ?_, fun line => ?_, fun settles => State.state_revokePort_settles holding turnaround settles,
      fun c cause up => ?_, fun down n other => ?_⟩
    · rw [port]
      exact cut.counters
    · rw [port]
      exact cut.o0
    · rw [port]
      exact cut.o1
    · rw [port]
      exact cut.credit
    · rw [port]
      exact cut.idleTimer
    · rw [State.revokePort_line holding line, State.port_setPortState_self]
    · subst cause
      exact (notices _ _ (show (NoticeBody.revoked c).rank ≠ 8 by simp [NoticeBody.rank])).2 (State.mem_revoked_told up)
    · subst down
      rw [notices _ _ other]
      show n ∈ (((s.cut p).setLease (.port p) .free).link h.link).notices ↔ _
      rw [State.link_setLease, State.notices_cut]
  · rcases offline with fault | off | ⟨notDisabled, notReady⟩
    · exact State.revokePort_line holding (.inl fault)
    · exact State.revokePort_line holding (.inr off)
    · rcases why.cases with settles | line | disabled
      · exact State.revokePort_notReady holding settles notReady
      · exact State.revokePort_line holding line
      · exact absurd disabled notDisabled
  · subst disabled
    exact State.revokePort_disabled holding
  · have cut := s.cutFrom_cut p
    refine ⟨cut.o0, cut.o1, cut.fillOrder, cut.credit, cut.frameSize, cut.graceTimer, cut.stallTimer, cut.idleTimer,
      cut.gatherTimer, cut.remembered, cut.paused, cut.flow, cut.tx, cut.counters, (s.workedAt_cut p).ports,
      fun b bytes filling => ?_, fun b bytes k handed => ⟨?_, fun e queued port buf => ?_⟩,
      fun b bytes k handed idle => ⟨?_, fun e queued here => ?_⟩,
      fun b bytes k handed sending => ⟨?_, fun e queued port buf => ?_⟩, fun k e queued other => ?_⟩
    · rw [State.inb_cut, State.cutBuf, filling]
      rfl
    · rw [State.inb_cut, State.cutBuf, handed]
      rfl
    · refine (s.mem_cut p k e).2 ⟨queued, ?_⟩
      rintro ⟨⟨bytes', handed', -⟩, -⟩
      rw [buf, handed] at handed'
      cases handed'
    · rw [State.inb_cut, State.cutBuf, handed]
      dsimp only
      rw [idle]
      rfl
    · obtain ⟨-, stays⟩ := (s.mem_cut p k e).1 queued
      obtain ⟨port, buf⟩ := here
      exact stays ⟨⟨bytes, by rw [buf, handed], by rw [buf, idle]⟩, port⟩
    · rw [State.inb_cut, State.cutBuf, handed]
      dsimp only
      rw [sending]
      rfl
    · refine (s.mem_cut p k e).2 ⟨queued, ?_⟩
      rintro ⟨⟨-, -, idle⟩, -⟩
      rw [buf, sending] at idle
      cases idle
    · exact (s.mem_cut p k e).2 ⟨queued, fun recalled => other recalled.2⟩
  · cases tx with
    | job c e => exact absurd rfl (other c e)
    | rest | code | tail => rfl

end Sys2Proof.Machine
end

section
/-! PROOF. A change of READY (R104, R108, R109, R113, R116), and a port that enters IDLE (R83). -/

namespace Sys2Proof.Machine

/-! ## A change held to its tenth tick -/

section
variable {s : State} {p : PortId} {level : Bool}

theorem exec_readyChangeTaken_same (running : s.inReset = false) :
    exec (.readyChangeTaken p (s.port p).readyPin) s = .next (s.whenDue (.ready p) (s.takeReady p)) :=
  (State.live_running _ running).trans (congrArg _ (if_pos rfl))

theorem exec_readyChangeTaken_moved (running : s.inReset = false) (moved : (s.port p).readyPin ≠ level) :
    exec (.readyChangeTaken p level) s =
      .next ((s.whenDue (.ready p) (s.takeReady p)).mapPort p (Port.putReady level)) :=
  (State.live_running _ running).trans (congrArg _ (if_neg moved))

theorem Due.ready_early (early : (s.port p).readyTicks < 10) : (Due.ready p).isDue s = false := by
  rw [Bool.eq_false_iff, ne_eq, Due.ready_isDue]
  omega

theorem exec_readyChangeTaken_due (running : s.inReset = false) (held : 10 ≤ (s.port p).readyTicks)
    (pin : (s.port p).readyPin = level) : exec (.readyChangeTaken p level) s = .next (s.takeReady p) := by
  rw [← pin, exec_readyChangeTaken_same running, State.whenDue_due _ ((Due.ready_isDue s p).2 held)]

/-- The part with the READY level taken into the line state, before the port answers it (R104). -/
def State.readyTaken (s : State) (p : PortId) (level : Bool) : State :=
  s.setPort p { s.port p with ready := level, readyTicks := 0 }

theorem State.takeReady_same (pin : (s.port p).readyPin = level) (same : (s.port p).ready = level) :
    s.takeReady p = s.readyTaken p level := by
  subst pin
  exact if_pos same

theorem State.takeReady_job (pin : (s.port p).readyPin = level) (changed : (s.port p).ready ≠ level)
    (kind : (s.port p).profile.kind = .job) :
    s.takeReady p = (s.readyTaken p level).readyMoves p level (s.port p).isReady := by
  subst pin
  refine (if_neg changed).trans ?_
  rw [kind]
  rfl

theorem State.takeReady_panel (pin : (s.port p).readyPin = level) (changed : (s.port p).ready ≠ level)
    (kind : (s.port p).profile.kind = .panel) :
    s.takeReady p = (s.readyTaken p level).panelFollows p (s.port p).isReady := by
  subst pin
  refine (if_neg changed).trans ?_
  rw [kind]
  rfl

theorem State.port_readyTaken (s : State) (p : PortId) (level : Bool) :
    (s.readyTaken p level).port p = { s.port p with ready := level, readyTicks := 0 } := State.port_setPort_self _ _ _

theorem State.isReady_readyTaken (s : State) (p : PortId) (level : Bool) :
    ((s.readyTaken p level).port p).isReady = (level && !(s.port p).fault) := by
  rw [State.port_readyTaken]
  rfl

end

/-! ## What a JOB port does -/

section
variable {t : State} {p : PortId} {level was : Bool}

theorem State.readyMoves_disabled (st : (t.port p).state = .disabled) : t.readyMoves p level was = t := by
  rw [State.readyMoves, st]

theorem State.readyMoves_offline (st : (t.port p).state = .offline) :
    t.readyMoves p level was = if !was && (t.port p).isReady then t.enterIdle p else t := by
  rw [State.readyMoves, st]

theorem State.readyMoves_resting (st : (t.port p).state = .idle ∨ (t.port p).state = .settling) :
    t.readyMoves p level was = if was && !(t.port p).isReady then t.goOffline p else t := by
  rcases st with st | st <;> rw [State.readyMoves, st]

theorem State.readyMoves_job (st : (t.port p).state.isJob = true) :
    t.readyMoves p level was = if level then t else t.revokePort p (.cause .offline) := by
  rw [PortState.isJob_eq, decide_eq_true_iff] at st
  rcases st with st | st | st <;> rw [State.readyMoves, st]

/-- READY asserted is answered by a port in OFFLINE only. -/
theorem State.readyMoves_stays (notOffline : (t.port p).state ≠ .offline) : t.readyMoves p true false = t := by
  cases st : (t.port p).state with
  | offline => exact absurd st notOffline
  | disabled => exact State.readyMoves_disabled st
  | idle => rw [State.readyMoves_resting (.inl st), if_neg (by simp)]
  | settling => rw [State.readyMoves_resting (.inr st), if_neg (by simp)]
  | opened | suspended | closing =>
    rw [State.readyMoves_job (by rw [st]; rfl)]
    rfl

end

/-! ## A port that enters IDLE -/

section
variable {s u : State} {p : PortId}

theorem State.enterIdle_rests (at_ : u = s.setPortState p .idle)
    (rests : s.queueOf (.port p) = [] ∨ (s.port p).profile.kind = .panel ∨ s.lease (.port p) ≠ .free) :
    s.enterIdle p = u := by
  subst at_
  refine State.grantHead_none ?_
  rcases rests with empty | other
  · refine .inr ?_
    rw [State.queueOf, State.waits_setPortState]
    exact empty
  · refine .inl (Bool.eq_false_iff.2 fun can => ?_)
    obtain ⟨job, free⟩ := (s.grantable_idle p).1 can
    rcases other with panel | held
    · exact (PortKind.ne_job_iff _).2 panel job
    · exact held free

theorem State.enterIdle_grants (at_ : u = s.setPortState p .idle) {w : Wait} {ws : List Wait}
    (head : s.queueOf (.port p) = w :: ws) (kind : (s.port p).profile.kind = .job) (free : s.lease (.port p) = .free) :
    s.enterIdle p = ((u.setWaits (s.waits.filter (fun v => !(v.link == w.link && v.resource == .port p)))).grant
      (.port p) ⟨w.link, w.cls, w.tag⟩).enterNotice w.link ⟨.granted, .port p, w.tag⟩ := by
  subst at_
  have queue : (s.setPortState p .idle).queueOf (.port p) = w :: ws := by
    rw [State.queueOf, State.waits_setPortState]
    exact head
  rw [State.enterIdle, State.grantHead_head ((s.grantable_idle p).2 ⟨kind, free⟩) queue, State.waits_setPortState]

theorem State.state_grant (s : State) (p : PortId) (h : Holding) : ((s.grant (.port p) h).port p).state = .opened := by
  obtain ⟨i0, i1, fills⟩ := ((s.port p).granted (s.jobSize p h.link)).startFilling_eq
  rw [State.port_grant, Port.state_judge, fills]
  rfl

theorem State.up_grant (s : State) (p : PortId) (h : Holding) (k : LinkId) :
    ((s.grant (.port p) h).link k).up = (s.link k).up := (s.worked_grant (.port p) h).up k

end

/-- Settles O35: what the port answers by its state, the taking of the level, and the entry of IDLE. -/
theorem readyMovesAJobPort : Obligations.ReadyMovesAJobPort := by
  refine ⟨fun s t p level running kind held pin at_ => ?_, fun s p level running => ⟨fun early pin => ?_,
    fun early moved => ?_, fun held moved => ⟨s.takeReady p, exec_readyChangeTaken_due running held rfl, ?_⟩⟩,
    fun s u p at_ => ⟨fun rests => ?_, fun w ws head kind free => ?_⟩⟩
  · have taken : t = s.readyTaken p level := at_
    subst taken
    have now := s.isReady_readyTaken p level
    have state : ((s.readyTaken p level).port p).state = (s.port p).state := by rw [State.port_readyTaken]
    have answers (changed : (s.port p).ready ≠ level) : exec (.readyChangeTaken p level) s =
        .next ((s.readyTaken p level).readyMoves p level (s.port p).isReady) := by
      rw [exec_readyChangeTaken_due running held pin, State.takeReady_job pin changed kind]
    have rises (old : (s.port p).ready = false) (new : level = true) : (s.port p).ready ≠ level := by simp [old, new]
    have falls (old : (s.port p).ready = true) (new : level = false) : (s.port p).ready ≠ level := by simp [old, new]
    refine ⟨fun same => ?_, fun old new st fault => ?_, fun old new st fault => ?_, fun old new st => ?_,
      fun old new fault st => ?_, fun old new fault st => ?_, fun old new st => ?_, fun old new st => ?_⟩
    · rw [exec_readyChangeTaken_due running held pin, State.takeReady_same pin same]
    · rw [answers (rises old new), State.readyMoves_offline (state.trans st), now, if_pos]
      simp [Port.isReady, old, new, fault]
    · rw [answers (rises old new), State.readyMoves_offline (state.trans st), now, if_neg]
      simp [fault]
    · rw [answers (rises old new)]
      subst new
      rw [Port.isReady, old]
      exact congrArg _ (State.readyMoves_stays fun off => st (state.symm.trans off))
    · rw [answers (falls old new), State.readyMoves_resting (by rw [state]; exact st), now, if_pos]
      · rfl
      · simp [Port.isReady, old, new, fault]
    · rw [answers (falls old new), State.readyMoves_resting (by rw [state]; exact st), if_neg]
      simp [Port.isReady, fault]
    · rw [answers (falls old new), State.readyMoves_job (by rw [state]; exact st), new]
      rfl
    · rw [answers (falls old new)]
      rcases st with st | st
      · rw [State.readyMoves_disabled (state.trans st)]
      · rw [State.readyMoves_offline (state.trans st), now, if_neg]
        simp [new]
  · subst pin
    rw [exec_readyChangeTaken_same running, State.whenDue_not_due _ (Due.ready_early early)]
  · rw [exec_readyChangeTaken_moved running moved, State.whenDue_not_due _ (Due.ready_early early)]
    rfl
  · rw [exec_readyChangeTaken_moved running moved, State.whenDue_due _ ((Due.ready_isDue s p).2 held)]
    rfl
  · have entered := State.enterIdle_rests at_ rests
    refine ⟨entered, ?_, ?_⟩
    · rw [entered, at_, State.port_setPortState_self]
    · rw [entered, at_, State.lease_setPortState]
  · have entered := State.enterIdle_grants at_ head kind free
    refine ⟨entered, ?_, ?_, fun up => ?_⟩
    · rw [entered, State.port_enterNotice, State.state_grant]
    · rw [entered, State.lease_enterNotice, State.lease_grant]
    · rw [entered]
      refine State.mem_enterNotice_self (.inr (.inr (.inl rfl))) ?_
      rw [State.up_grant, at_]
      exact ((s.worked_setPortState p .idle).up w.link).trans up

end Sys2Proof.Machine
end

section
/-! PROOF. A change of FAULT (R104, R109, R116): a job suspended (R111) and resumed (R112). -/

namespace Sys2Proof.Machine

/-! ## A change held to its tenth tick -/

section
variable {s : State} {p : PortId} {level : Bool}

theorem exec_faultChangeTaken_same (running : s.inReset = false) :
    exec (.faultChangeTaken p (s.port p).faultPin) s = .next (s.whenDue (.fault p) (s.takeFault p)) :=
  (State.live_running _ running).trans (congrArg _ (if_pos rfl))

theorem exec_faultChangeTaken_moved (running : s.inReset = false) (moved : (s.port p).faultPin ≠ level) :
    exec (.faultChangeTaken p level) s =
      .next ((s.whenDue (.fault p) (s.takeFault p)).mapPort p (Port.putFault level)) :=
  (State.live_running _ running).trans (congrArg _ (if_neg moved))

theorem Due.fault_early (early : (s.port p).faultTicks < 10) : (Due.fault p).isDue s = false := by
  rw [Bool.eq_false_iff, ne_eq, Due.fault_isDue]
  omega

theorem exec_faultChangeTaken_due (running : s.inReset = false) (held : 10 ≤ (s.port p).faultTicks)
    (pin : (s.port p).faultPin = level) : exec (.faultChangeTaken p level) s = .next (s.takeFault p) := by
  rw [← pin, exec_faultChangeTaken_same running, State.whenDue_due _ ((Due.fault_isDue s p).2 held)]

/-- The part with the FAULT level taken into the line state, before the port answers it (R104). -/
def State.faultTaken (s : State) (p : PortId) (level : Bool) : State :=
  s.setPort p { s.port p with fault := level, faultTicks := 0 }

theorem State.takeFault_same (pin : (s.port p).faultPin = level) (same : (s.port p).fault = level) :
    s.takeFault p = s.faultTaken p level := by
  subst pin
  exact if_pos same

theorem State.takeFault_job (pin : (s.port p).faultPin = level) (changed : (s.port p).fault ≠ level)
    (kind : (s.port p).profile.kind = .job) :
    s.takeFault p = (s.faultTaken p level).faultMoves p level (s.port p).isReady := by
  subst pin
  refine (if_neg changed).trans ?_
  rw [kind]
  rfl

theorem State.takeFault_panel (pin : (s.port p).faultPin = level) (changed : (s.port p).fault ≠ level)
    (kind : (s.port p).profile.kind = .panel) :
    s.takeFault p = (s.faultTaken p level).panelFollows p (s.port p).isReady := by
  subst pin
  refine (if_neg changed).trans ?_
  rw [kind]
  rfl

theorem State.port_faultTaken (s : State) (p : PortId) (level : Bool) :
    (s.faultTaken p level).port p = { s.port p with fault := level, faultTicks := 0 } := State.port_setPort_self _ _ _

theorem State.isReady_faultTaken (s : State) (p : PortId) (level : Bool) :
    ((s.faultTaken p level).port p).isReady = ((s.port p).ready && !level) := by
  rw [State.port_faultTaken]
  rfl

end

/-! ## What a JOB port does -/

section
variable {t : State} {p : PortId} {level was : Bool}

theorem State.faultMoves_disabled (st : (t.port p).state = .disabled) : t.faultMoves p level was = t := by
  rw [State.faultMoves, st]

theorem State.faultMoves_offline (st : (t.port p).state = .offline) :
    t.faultMoves p level was = if !was && (t.port p).isReady then t.enterIdle p else t := by
  rw [State.faultMoves, st]

theorem State.faultMoves_resting (st : (t.port p).state = .idle ∨ (t.port p).state = .settling) :
    t.faultMoves p level was = if was && !(t.port p).isReady then t.goOffline p else t := by
  rcases st with st | st <;> rw [State.faultMoves, st]

theorem State.faultMoves_open (st : (t.port p).state = .opened ∨ (t.port p).state = .closing) :
    t.faultMoves p level was = if level && (t.port p).ready then t.faultStrikes p else t := by
  rcases st with st | st <;> rw [State.faultMoves, st]

theorem State.faultMoves_suspended (st : (t.port p).state = .suspended) :
    t.faultMoves p level was = if !level && (t.port p).ready then t.resume p else t := by
  rw [State.faultMoves, st]

/-- A port that is not ready answers no FAULT. -/
theorem State.faultMoves_notReady (ready : (t.port p).ready = false) : t.faultMoves p level false = t := by
  have notReady : (t.port p).isReady = false := by rw [Port.isReady, ready, Bool.false_and]
  cases st : (t.port p).state with
  | disabled => exact State.faultMoves_disabled st
  | offline => rw [State.faultMoves_offline st, notReady]; rfl
  | idle => rw [State.faultMoves_resting (.inl st)]; rfl
  | settling => rw [State.faultMoves_resting (.inr st)]; rfl
  | opened => rw [State.faultMoves_open (.inl st), ready, Bool.and_false]; rfl
  | closing => rw [State.faultMoves_open (.inr st), ready, Bool.and_false]; rfl
  | suspended => rw [State.faultMoves_suspended st, ready, Bool.and_false]; rfl

/-- The end of a fault is answered in OFFLINE and SUSPENDED only. -/
theorem State.faultMoves_stays (notOffline : (t.port p).state ≠ .offline) (notSuspended : (t.port p).state ≠ .suspended) :
    t.faultMoves p false false = t := by
  cases st : (t.port p).state with
  | offline => exact absurd st notOffline
  | suspended => exact absurd st notSuspended
  | disabled => exact State.faultMoves_disabled st
  | idle => rw [State.faultMoves_resting (.inl st)]; rfl
  | settling => rw [State.faultMoves_resting (.inr st)]; rfl
  | opened => rw [State.faultMoves_open (.inl st)]; rfl
  | closing => rw [State.faultMoves_open (.inr st)]; rfl

/-- A fault is not answered in OFFLINE and SUSPENDED. -/
theorem State.faultMoves_away (st : (t.port p).state = .offline ∨ (t.port p).state = .suspended)
    (notReady : (t.port p).isReady = false) : t.faultMoves p true was = t := by
  rcases st with st | st
  · rw [State.faultMoves_offline st, notReady, Bool.and_false]; rfl
  · rw [State.faultMoves_suspended st]; rfl

end

/-! ## The holder told -/

section
variable {s : State} {p : PortId} {body : NoticeBody}

theorem State.tellHolder_held {h : Holding} (holding : (s.lease (.port p)).holding = some h) :
    s.tellHolder p body = s.enterNotice h.link ⟨body, .port p, h.tag⟩ := by
  rw [State.tellHolder, holding]

theorem State.port_tellHolder (s : State) (p : PortId) (body : NoticeBody) (q : PortId) :
    (s.tellHolder p body).port q = s.port q := by
  unfold State.tellHolder
  split
  · rfl
  · exact s.port_enterNotice _ _ q

theorem State.lease_tellHolder (s : State) (p : PortId) (body : NoticeBody) (r : Resource) :
    (s.tellHolder p body).lease r = s.lease r := (s.keepsAt_tellHolder r p body).lease

/-- What the drain is completed of: the holder is told, when there is one, and the job ends (R88, R91). -/
theorem State.completeDrain_ends (s : State) (p : PortId) : ∃ v : State, s.completeDrain p = v.endJob p ∧
    (∀ q : PortId, v.port q = s.port q) ∧ (∀ r : Resource, v.lease r = s.lease r) ∧
    ∀ h : Holding, (s.lease (.port p)).holding = some h → (s.link h.link).up = true →
      (⟨.released, .port p, h.tag⟩ : Notice) ∈ (v.link h.link).notices := by
  cases holding : (s.lease (.port p)).holding with
  | none =>
    refine ⟨s, ?_, fun _ => rfl, fun _ => rfl, fun h held => absurd held (by simp)⟩
    rw [State.completeDrain, holding]
  | some g =>
    refine ⟨_, State.completeDrain_tells holding, fun q => s.port_enterNotice _ _ q, fun r => s.lease_enterNotice _ _ r,
      fun h held up => ?_⟩
    obtain rfl := Option.some.inj held
    exact State.mem_enterNotice_self (.inr (.inl rfl)) up

end

/-! ## Suspended -/

/-- No timer of an open job runs in another state (R94, R120). -/
theorem Port.timers_judge_of_closed {x : Port} (notOpen : x.state ≠ .opened) (notClosing : x.state ≠ .closing) :
    x.judge.idleTimer = none ∧ x.judge.stallTimer = none := by
  obtain ⟨paused, hold, slot, e⟩ := x.setPause_eq x.wantsPause
  have rest : (x.setPause x.wantsPause).atRest = false := by
    rw [Port.atRest_setPause, Bool.eq_false_iff, ne_eq, Port.atRest_iff]
    exact fun atRest => notOpen atRest.1
  have held : { x.setPause x.wantsPause with idleTimer := none }.outHeld = false := by
    rw [Bool.eq_false_iff, ne_eq, Port.outHeld_iff, e]
    exact fun outHeld => outHeld.1.elim notOpen notClosing
  rw [Port.judge, Port.judgePause, Port.judgeRest_of_not rest, Port.judgeStall_of_not (.inl held)]
  exact ⟨rfl, rfl⟩

theorem Port.graceTimer_judge (x : Port) : x.judge.graceTimer = x.graceTimer := by
  obtain ⟨_, _, _, _, _, e⟩ := x.judge_eq
  rw [e]

/-- A job as a fault suspends it, before the judgements (R111). -/
def Port.suspended (x : Port) : Port :=
  { x with
    remembered := some x.state, graceTimer := some (x.profile.faultGrace.toNat * 1000), state := .suspended,
    select := true }

section
variable {s : State} {p : PortId}

theorem State.port_suspend (s : State) (p : PortId) : (s.suspend p).port p = (s.port p).suspended.judge := by
  rw [State.suspend, State.port_mapPort_self, State.port_tellHolder, State.port_setPortState_self,
    State.port_mapPort_self]
  rfl

theorem State.lease_suspend (s : State) (p : PortId) (r : Resource) : (s.suspend p).lease r = s.lease r := by
  rw [State.suspend, State.lease_mapPort, State.lease_tellHolder, State.lease_setPortState, State.lease_mapPort]

theorem State.mem_suspend {h : Holding} (holding : (s.lease (.port p)).holding = some h)
    (up : (s.link h.link).up = true) :
    (⟨.suspended, .port p, h.tag⟩ : Notice) ∈ ((s.suspend p).link h.link).notices := by
  rw [State.suspend, State.link_of_mapPort, State.tellHolder_held, State.link_enterNotice, if_pos]
  · exact mem_mergeNotice_suspended.2 (.inl rfl)
  · exact ⟨rfl, ((State.worked_setPortState _ p .suspended).up h.link).trans up⟩
  · rw [State.lease_setPortState, State.lease_mapPort, holding]

/-! ## Resumed -/

/-- A job as it resumes in state st, before the judgements (R112). -/
def Port.resumed (st : PortState) (x : Port) : Port :=
  { x with remembered := none, graceTimer := none, state := st, select := st.isJob }

/-- The part as a job resumes in state st and its holder is told (R112). -/
def State.resumed (s : State) (p : PortId) (st : PortState) : State :=
  ((s.mapPort p (fun y => { y with remembered := none, graceTimer := none })).setPortState p st).tellHolder p .resumed

theorem State.port_resumed (s : State) (p : PortId) (st : PortState) :
    (s.resumed p st).port p = (s.port p).resumed st := by
  rw [State.resumed, State.port_tellHolder, State.port_setPortState_self, State.port_mapPort_self]
  rfl

theorem State.lease_resumed (s : State) (p : PortId) (st : PortState) (r : Resource) :
    (s.resumed p st).lease r = s.lease r := by
  rw [State.resumed, State.lease_tellHolder, State.lease_setPortState, State.lease_mapPort]

theorem State.up_resumed (s : State) (p : PortId) (st : PortState) (k : LinkId) :
    ((s.resumed p st).link k).up = (s.link k).up :=
  ((State.worked_tellHolder _ p .resumed).up k).trans ((State.worked_setPortState _ p st).up k)

theorem State.resume_eq {st : PortState} (was : (s.port p).remembered = some st) : s.resume p =
    if st = .closing && (s.port p).fillOrder.isEmpty then (s.resumed p st).completeDrain p
    else (s.resumed p st).mapPort p Port.judge := by
  have order : ((s.resumed p st).port p).fillOrder = (s.port p).fillOrder := by
    rw [State.port_resumed]
    rfl
  rw [← order, State.resume, was]
  rfl

theorem State.resume_goesOn {st : PortState} (was : (s.port p).remembered = some st)
    (goesOn : st = .opened ∨ (s.port p).fillOrder ≠ []) : s.resume p = (s.resumed p st).mapPort p Port.judge := by
  rw [State.resume_eq was, if_neg]
  rcases goesOn with rfl | staged
  · simp
  · simp [staged]

theorem State.resume_completes (was : (s.port p).remembered = some .closing) (drained : (s.port p).fillOrder = []) :
    s.resume p = (s.resumed p .closing).completeDrain p := by
  rw [State.resume_eq was, drained]
  rfl

section
variable {h : Holding} (st : PortState) (holding : (s.lease (.port p)).holding = some h)
  (up : (s.link h.link).up = true)
include holding up

theorem State.notices_resumed : ∃ set : List Notice,
    (∀ n : Notice, n.body.rank ≠ 8 → (n ∈ set ↔ n ∈ (s.link h.link).notices)) ∧
    ((s.resumed p st).link h.link).notices = mergeNotice set ⟨.resumed, .port p, h.tag⟩ := by
  have same (n : Notice) (other : n.body.rank ≠ 8) := State.mem_setPortState
    (s := s.mapPort p (fun y : Port => { y with remembered := none, graceTimer := none })) (p := p) (k := h.link) st other
  refine ⟨_, same, ?_⟩
  rw [State.resumed, State.tellHolder_held, State.link_enterNotice, if_pos]
  · exact ⟨rfl, ((State.worked_setPortState _ p st).up h.link).trans up⟩
  · rw [State.lease_setPortState, State.lease_mapPort, holding]

/-- A SUSPENDED still pending is withdrawn, and the RESUMED with it (R53). -/
theorem State.resumed_withdraws (pending : ∃ q ∈ (s.link h.link).notices, q.resource = .port p ∧ q.body = .suspended)
    {m : Notice} (mem : m ∈ ((s.resumed p st).link h.link).notices) (resource : m.resource = .port p) :
    m.body ≠ .suspended := by
  obtain ⟨set, same, notices⟩ := State.notices_resumed st holding up
  obtain ⟨q, mem', here, body⟩ := pending
  have kept : ∃ q ∈ set, q.resource = .port p ∧ q.body = .suspended :=
    ⟨q, (same q (by rw [body]; decide)).2 mem', here, body⟩
  rw [notices, mem_mergeNotice_resumed_cancels kept] at mem
  exact mt NoticeBody.eq_suspended_iff.1 (mem.2 resource)

theorem State.resumed_tells (absent : ∀ q ∈ (s.link h.link).notices, q.resource = .port p → q.body ≠ .suspended) :
    (⟨.resumed, .port p, h.tag⟩ : Notice) ∈ ((s.resumed p st).link h.link).notices := by
  obtain ⟨set, same, notices⟩ := State.notices_resumed st holding up
  rw [notices, mem_mergeNotice_resumed_enters]
  · exact .inl rfl
  · rintro ⟨q, mem, here, body⟩
    exact absent q ((same q (by rw [body]; decide)).1 mem) here body

end

end

/-- Settles O36: what the port answers by its state, the job suspended and resumed, and the taking of the level. -/
theorem faultSuspendsAndResumes : Obligations.FaultSuspendsAndResumes := by
  refine ⟨fun s t p level running kind held pin at_ => ?_, fun s p level running => ⟨fun early pin => ?_,
    fun early moved => ?_, fun held moved => ⟨s.takeFault p, exec_faultChangeTaken_due running held rfl, ?_⟩⟩⟩
  · have taken : t = s.faultTaken p level := at_
    subst taken
    have now := s.isReady_faultTaken p level
    have port := s.port_faultTaken p level
    have state : ((s.faultTaken p level).port p).state = (s.port p).state := by rw [port]
    have ready' : ((s.faultTaken p level).port p).ready = (s.port p).ready := by rw [port]
    have was : ((s.faultTaken p level).port p).remembered = (s.port p).remembered := by rw [port]
    have order : ((s.faultTaken p level).port p).fillOrder = (s.port p).fillOrder := by rw [port]
    have unchanged (same : (s.port p).fault = level) :
        exec (.faultChangeTaken p level) s = .next (s.faultTaken p level) := by
      rw [exec_faultChangeTaken_due running held pin, State.takeFault_same pin same]
    have answers (changed : (s.port p).fault ≠ level) : exec (.faultChangeTaken p level) s =
        .next ((s.faultTaken p level).faultMoves p level (s.port p).isReady) := by
      rw [exec_faultChangeTaken_due running held pin, State.takeFault_job pin changed kind]
    have rises (old : (s.port p).fault = false) (new : level = true) : (s.port p).fault ≠ level := by simp [old, new]
    have falls (old : (s.port p).fault = true) (new : level = false) : (s.port p).fault ≠ level := by simp [old, new]
    have resumes (old : (s.port p).fault = true) (new : level = false) (ready : (s.port p).ready = true)
        (st : (s.port p).state = .suspended) :
        exec (.faultChangeTaken p level) s = .next ((s.faultTaken p level).resume p) := by
      rw [answers (falls old new), State.faultMoves_suspended (state.trans st), ready', ready, new]
      rfl
    refine ⟨unchanged, fun away => ?_, fun new st => ?_, fun new notOffline notSuspended => ?_,
      fun old new ready st => ?_, fun old new ready st => ?_, fun old new ready st grace => ?_,
      fun old new ready st grace => ?_, fun st old new ready suspended remembered goesOn => ?_,
      fun old new ready suspended remembered drained => ?_⟩
    · by_cases same : (s.port p).fault = level
      · exact unchanged same
      rw [answers same]
      rcases away with st | ready
      · rw [State.faultMoves_disabled (state.trans st)]
      · rw [Port.isReady, ready, Bool.false_and, State.faultMoves_notReady (ready'.trans ready)]
    · by_cases same : (s.port p).fault = level
      · exact unchanged same
      rw [answers same]
      subst new
      rw [State.faultMoves_away (by rw [state]; exact st) (now.trans (Bool.and_false _))]
    · by_cases same : (s.port p).fault = level
      · exact unchanged same
      rw [answers same]
      subst new
      have old : (s.port p).fault = true := (Bool.not_eq_false _).mp same
      rw [Port.isReady, old, Bool.not_true, Bool.and_false,
        State.faultMoves_stays (by rw [state]; exact notOffline) (by rw [state]; exact notSuspended)]
    · rw [answers (falls old new), State.faultMoves_offline (state.trans st), now, if_pos]
      simp [Port.isReady, old, new, ready]
    · rw [answers (rises old new), State.faultMoves_resting (by rw [state]; exact st), now, if_pos]
      · rfl
      · simp [Port.isReady, old, new, ready]
    · rw [answers (rises old new), State.faultMoves_open (by rw [state]; exact st), if_pos]
      · refine congrArg _ (if_pos ?_)
        rw [port]
        exact grace
      · rw [ready', ready, new]
        rfl
    · have strikes : exec (.faultChangeTaken p level) s = .next ((s.faultTaken p level).suspend p) := by
        rw [answers (rises old new), State.faultMoves_open (by rw [state]; exact st), if_pos]
        · refine congrArg _ (if_neg ?_)
          rw [port]
          exact grace
        · rw [ready', ready, new]
          rfl
      have after := (s.faultTaken p level).port_suspend p
      obtain ⟨idle, stall⟩ := Port.timers_judge_of_closed (x := ((s.faultTaken p level).port p).suspended)
        (show PortState.suspended ≠ .opened by decide) (show PortState.suspended ≠ .closing by decide)
      refine ⟨_, strikes, ?_, ?_, ?_, ?_, ?_, ?_, ?_, ?_, ?_, fun h holding up => ?_, fun r => ?_⟩
      · rw [after, Port.state_judge]
        rfl
      · rw [after, Port.remembered_judge, port]
        rfl
      · rw [after, Port.graceTimer_judge, port]
        rfl
      · rw [after, stall]
      · rw [after, idle]
      · rw [after, Port.select_judge]
        rfl
      · rw [after, Port.o0_judge, port]
        rfl
      · rw [after, Port.o1_judge, port]
        rfl
      · rw [after, Port.credit_judge, port]
        rfl
      · exact State.mem_suspend (s := s.faultTaken p level) holding up
      · exact (s.faultTaken p level).lease_suspend p r
    · have after : (((s.faultTaken p level).resumed p st).mapPort p Port.judge).port p =
          (((s.faultTaken p level).port p).resumed st).judge := by
        rw [State.port_mapPort_self, State.port_resumed]
      have goes : exec (.faultChangeTaken p level) s =
          .next (((s.faultTaken p level).resumed p st).mapPort p Port.judge) := by
        rw [resumes old new ready suspended, State.resume_goesOn (was.trans remembered) (by rw [order]; exact goesOn)]
      refine ⟨_, goes, ?_, ?_, ?_, ?_, ?_, ?_, fun h holding up => ⟨fun pending m mem resource => ?_, fun absent => ?_⟩,
        fun r => ?_⟩
      · rw [after, Port.state_judge]
        rfl
      · rw [after, Port.remembered_judge]
        rfl
      · rw [after, Port.graceTimer_judge]
        rfl
      · rw [after, Port.o0_judge, port]
        rfl
      · rw [after, Port.o1_judge, port]
        rfl
      · rw [after, Port.credit_judge, port]
        rfl
      · exact State.resumed_withdraws (s := s.faultTaken p level) st holding up pending mem resource
      · exact State.resumed_tells (s := s.faultTaken p level) st holding up absent
      · rw [State.lease_mapPort, State.lease_resumed]
        rfl
    · obtain ⟨v, ends, ports, leases, told⟩ := ((s.faultTaken p level).resumed p .closing).completeDrain_ends p
      have after : v.port p = ((s.faultTaken p level).port p).resumed .closing := by
        rw [ports, State.port_resumed]
      refine ⟨v, ?_, ?_, ?_, ?_, fun r => ?_, fun turnaround => State.endJob_settles ?_, fun h holding up => ?_⟩
      · rw [resumes old new ready suspended, State.resume_completes (was.trans remembered) (order.trans drained), ends]
      · rw [after]
        rfl
      · rw [after]
        rfl
      · rw [after]
        rfl
      · rw [leases, State.lease_resumed]
        rfl
      · rw [after, port]
        exact turnaround
      · refine told h ?_ ?_
        · rw [State.lease_resumed]
          exact holding
        · rw [State.up_resumed]
          exact up
  · subst pin
    rw [exec_faultChangeTaken_same running, State.whenDue_not_due _ (Due.fault_early early)]
  · rw [exec_faultChangeTaken_moved running moved, State.whenDue_not_due _ (Due.fault_early early)]
    rfl
  · rw [exec_faultChangeTaken_moved running moved, State.whenDue_due _ ((Due.fault_isDue s p).2 held)]
    rfl

end Sys2Proof.Machine
end

section
/-! PROOF. The timers of a port (R95, R112, R116, R120, R179) and the handing of a filling buffer (R135, R136). -/

namespace Sys2Proof.Machine

/-! ## The filling buffer -/

section
variable {x y : Port} {b : BufId} {bytes : List Byte}

theorem Port.filling_congr (first : y.i0 = x.i0) (second : y.i1 = x.i1) : y.filling = x.filling := by
  rw [Port.filling, first, second, Port.filling]

/-- The buffer that is filling is filling still with other bytes in it. -/
theorem Port.filling_setInb (more : List Byte) (filling : x.filling = some (b, bytes)) :
    (x.setInb b (.filling more)).filling = some (b, more) := by
  have here := Port.filling_eq filling
  cases b with
  | b0 => rfl
  | b1 =>
    cases first : x.i0 with
    | filling others =>
      rw [Port.filling, first] at filling
      cases filling
    | free | handed => simp [Port.filling, Port.setInb, first]

/-- A buffer that is handed stays so when another begins to fill. -/
theorem Port.inb_startFilling_of_handed {k : LinkId} {j : Bool} (handed : x.inb b = .handed bytes k j) :
    x.startFilling.inb b = .handed bytes k j := by
  have notFree {i : InBuf} (same : i = .handed bytes k j) : ¬i.isFree = true := by
    rw [same]
    exact Bool.false_ne_true
  unfold Port.startFilling
  split
  · exact handed
  · cases b with
    | b0 =>
      rw [if_neg (notFree (i := x.i0) handed)]
      split <;> exact handed
    | b1 =>
      split
      · exact handed
      · rw [if_neg (notFree (i := x.i1) handed)]
        exact handed

/-- Beside a buffer that is handed a free one begins to fill. -/
theorem Port.inb_startFilling_other {k : LinkId} {j : Bool} (handed : x.inb b = .handed bytes k j)
    (free : x.inb b.other = .free) : x.startFilling.inb b.other = .filling [] := by
  cases b with
  | b0 =>
    rw [Port.startFilling_b1 handed free]
    rfl
  | b1 =>
    rw [Port.startFilling_b0 free]
    · rfl
    · intro others filling
      exact InBuf.noConfusion (filling.symm.trans handed)

theorem Port.gatherTimer_judge (x : Port) : x.judge.gatherTimer = x.gatherTimer := by
  obtain ⟨_, _, _, _, _, e⟩ := x.judge_eq
  rw [e]

theorem Port.flow_judge (x : Port) : x.judge.flow = x.flow := by
  obtain ⟨_, _, _, _, _, e⟩ := x.judge_eq
  rw [e]

end

/-! ## The handing of a filling buffer -/

/-- A port whose buffer b, with bytes in it, goes to link k (R136). -/
def Port.handsOver (b : BufId) (bytes : List Byte) (k : LinkId) (x : Port) : Port :=
  { x.setInb b (.handed bytes k true) with gatherTimer := none }

section
variable {x : Port} {b : BufId} {bytes : List Byte} {k : LinkId}

theorem Port.inb_handsOver : (x.handsOver b bytes k).inb b = .handed bytes k true := by cases b <;> rfl

theorem Port.inb_handsOver_other : (x.handsOver b bytes k).inb b.other = x.inb b.other := by cases b <;> rfl

/-- What a handing leaves of the port (R136). -/
theorem Port.handedOver (x : Port) (b : BufId) (bytes : List Byte) (k : LinkId) :
    (x.handsOver b bytes k).startFilling.judge.inb b = .handed bytes k true ∧
    (x.handsOver b bytes k).startFilling.judge.gatherTimer = none ∧
    (x.handsOver b bytes k).startFilling.judge.flow = x.flow ∧
    (x.handsOver b bytes k).startFilling.judge.counters = x.counters ∧
    (x.inb b.other = .free → (x.handsOver b bytes k).startFilling.judge.inb b.other = .filling []) := by
  obtain ⟨i0, i1, e⟩ := (x.handsOver b bytes k).startFilling_eq
  refine ⟨?_, ?_, ?_, ?_, fun free => ?_⟩
  · rw [Port.inb_judge, Port.inb_startFilling_of_handed Port.inb_handsOver]
  · rw [Port.gatherTimer_judge, e]
    rfl
  · rw [Port.flow_judge, e]
    cases b <;> rfl
  · rw [Port.counters_judge, e]
    cases b <;> rfl
  · rw [Port.inb_judge, Port.inb_startFilling_other Port.inb_handsOver]
    rw [Port.inb_handsOver_other, free]

variable {s : State} {p : PortId} {h : Holding}

theorem State.handFilling_hands (filling : (s.port p).filling = some (b, bytes)) (some : bytes ≠ [])
    (holding : (s.lease (.port p)).holding = .some h) :
    s.handFilling p = (s.handTo p b bytes h.link).mapPort p (fun x => x.startFilling.judge) := by
  rw [State.handFilling, filling, (s.holder_eq_some _ _).2 ⟨h, holding, rfl⟩]
  exact if_neg (mt List.isEmpty_iff.1 some)

theorem State.port_handed (s : State) (p : PortId) (b : BufId) (bytes : List Byte) (k : LinkId) :
    ((s.handTo p b bytes k).mapPort p (fun x => x.startFilling.judge)).port p =
      ((s.port p).handsOver b bytes k).startFilling.judge := by
  rw [State.port_mapPort_self, State.handTo, State.port_mapPort_self]
  rfl

theorem State.link_handed (s : State) (p : PortId) (b : BufId) (bytes : List Byte) (k j : LinkId) :
    ((s.handTo p b bytes k).mapPort p (fun x => x.startFilling.judge)).link j =
      if j = k then { s.link j with dataQ := (s.link j).dataQ ++ [⟨p, b, bytes.length⟩] } else s.link j := by
  rw [State.link_of_mapPort, State.handTo, State.link_of_mapPort, State.link_mapLink]
  split
  · next same => rw [same]
  · rfl

end

/-- Settles O39: an expiry is taken when its timer has reached 0, and what each of the five does. -/
theorem portTimersExpire : Obligations.PortTimersExpire := by
  refine ⟨fun s p running => ⟨fun due => ?_, fun due => ?_, fun due => ?_⟩,
    fun s p => ⟨fun early => ?_, fun early => ?_, fun early => ?_, fun early => ?_, fun early => ?_⟩,
    fun s p u running settling due kind free at_ => ?_, fun s p b bytes h running due filling some holding => ?_⟩
  · exact exec_command (d := .idle p) running ((Due.timer_isDue _).2 due)
  · exact exec_command (d := .grace p) running ((Due.timer_isDue _).2 due)
  · exact exec_command (d := .stall p) running ((Due.timer_isDue _).2 due)
  · exact State.live_of_eq (State.whenDue_not_due _ (beq_eq_false_iff_ne.2 early))
  · exact State.live_of_eq (State.whenDue_not_due _ (beq_eq_false_iff_ne.2 early))
  · exact State.live_of_eq (State.whenDue_not_due _ (beq_eq_false_iff_ne.2 early))
  · exact State.live_of_eq (State.whenDue_not_due _ (beq_eq_false_iff_ne.2 early))
  · exact State.live_of_eq (State.whenDue_not_due _ (beq_eq_false_iff_ne.2 early))
  · have enters : exec (.turnaroundTimerExpiry p) s =
        .next ((s.setPort p { s.port p with turnTimer := none }).enterIdle p) := by
      refine (exec_command (d := .turn p) running ((Due.timer_isDue _).2 due)).trans (congrArg _ ?_)
      exact if_pos settling
    have port : (s.setPort p { s.port p with turnTimer := none }).port p = { s.port p with turnTimer := none } :=
      State.port_setPort_self _ _ _
    refine ⟨fun empty => ?_, fun w ws head => ?_⟩
    · rw [enters, State.enterIdle_rests at_ (.inl empty)]
    · rw [enters, State.enterIdle_grants at_ head (by rw [port]; exact kind) free]
      rfl
  · have hands : exec (.gatherTimerExpiry p) s = .next
        (((s.setPort p { s.port p with gatherTimer := none }).handTo p b bytes h.link).mapPort p
          (fun x => x.startFilling.judge)) := by
      refine (exec_command (d := .gather p) running ((Due.timer_isDue _).2 due)).trans (congrArg _ ?_)
      refine State.handFilling_hands ?_ some holding
      rw [State.port_mapPort_self]
      exact filling
    have kept := State.workedAt_handTo (s.setPort p { s.port p with gatherTimer := none }) p b bytes h.link
    have port := (s.setPort p { s.port p with gatherTimer := none }).port_handed p b bytes h.link
    obtain ⟨handed, timer, -, -, other⟩ :=
      ((s.setPort p { s.port p with gatherTimer := none }).port p).handedOver b bytes h.link
    refine ⟨_, hands, ?_, fun k ne => ?_, ?_, ?_, fun free => ?_, fun q ne => ?_, fun r => ?_, rfl⟩
    · rw [State.link_handed, if_pos rfl]
      rfl
    · rw [State.link_handed, if_neg ne]
      rfl
    · rw [port, handed]
    · rw [port, timer]
    · rw [port]
      refine other ?_
      rw [State.port_setPort_self]
      cases b <;> exact free
    · rw [State.port_mapPort, if_neg ne, kept.ports q ne, State.port_setPort_ne _ _ ne]
    · rw [State.lease_mapPort, State.handTo, State.lease_mapPort, State.lease_mapLink]
      cases r <;> rfl

end Sys2Proof.Machine
end

section
/-! PROOF. A character received at a JOB port (R103, R119, R122, R134, R139). -/

namespace Sys2Proof.Machine

/-! ## What the receiver checks -/

section
variable (f : LineFormat) (c : RxChar)

theorem RxChar.isBreak_iff : RxChar.isBreak f c = true ↔
    c.data = 0 ∧ (f.parity = .none ∨ c.parityBit = false) ∧ c.stop1 = false ∧ (f.stop = .one ∨ c.stop2 = false) := by
  simp only [RxChar.isBreak, Bool.and_eq_true, Bool.or_eq_true, beq_iff_eq, Bool.not_eq_true', and_assoc]

/-- The parity bit sampled is wrong when it makes the number of ones wrong (R103). -/
theorem RxChar.parityError_iff : RxChar.parityError f c = true ↔
    (f.parity = .odd ∧ (onesOf c.data + c.parityBit.toNat) % 2 = 0) ∨
      (f.parity = .even ∧ (onesOf c.data + c.parityBit.toNat) % 2 = 1) := by
  rw [RxChar.parityError]
  cases parity : f.parity with
  | none => simp [parityOf]
  | odd =>
    cases bit : c.parityBit with
    | false => simp [parityOf]
    | true =>
      simp only [parityOf, bne_iff_ne, ne_eq, beq_iff_eq, Bool.toNat_true, true_and, reduceCtorEq, false_and, or_false]
      omega
  | even =>
    cases bit : c.parityBit with
    | false => simp [parityOf]
    | true =>
      simp only [parityOf, bne_iff_ne, ne_eq, beq_iff_eq, Bool.toNat_true, true_and, reduceCtorEq, false_and, false_or]
      omega

theorem ones_eq : ([c.data.getLsbD 0, c.data.getLsbD 1, c.data.getLsbD 2, c.data.getLsbD 3, c.data.getLsbD 4,
    c.data.getLsbD 5, c.data.getLsbD 6, c.data.getLsbD 7, c.parityBit].filter id).length =
    onesOf c.data + c.parityBit.toNat := by
  show ((dataBits c.data ++ [c.parityBit]).filter id).length = _
  rw [List.filter_append, List.length_append, length_filter_dataBits]
  cases c.parityBit <;> rfl

end

/-! ## Codes and data -/

section
variable {s : State} {p : PortId} {c : RxChar} {f : LineFormat}

theorem exec_character_job (running : s.inReset = false) (job : (s.port p).profile.kind = .job)
    (format : f = (s.port p).rxFormat c) (noBreak : RxChar.isBreak f c = false) :
    exec (.portCharacterReceived p c) s =
      .next ((s.counted p c f).jobByte p c.data (RxChar.parityError f c || RxChar.framingError c)) := by
  refine (State.live_running _ running).trans (congrArg _ ?_)
  rw [State.takeCharacter, ← format]
  dsimp only
  rw [if_neg (Bool.eq_false_iff.1 noBreak), job]
  simp only [State.mapPort, State.port_setPort_self, State.setPort_setPort]
  rfl

variable {d : Byte} {error : Bool}

theorem State.jobByte_pause (flow : (s.port p).profile.flow = .codes) (code : d = (s.port p).profile.pauseCode) :
    s.jobByte p d false = s.setPort p (Port.judge { s.port p with flow := .stopped }) := by
  rw [State.jobByte, if_pos flow, code]
  exact if_pos (decide_eq_true rfl)

theorem State.jobByte_resume (flow : (s.port p).profile.flow = .codes) (code : d = (s.port p).profile.resumeCode)
    (other : (s.port p).profile.pauseCode ≠ (s.port p).profile.resumeCode) :
    s.jobByte p d false = s.setPort p (Port.judge { s.port p with flow := .running }) := by
  rw [State.jobByte, if_pos flow, code, if_neg, if_pos]
  · rfl
  · exact decide_eq_true rfl
  · simpa using other.symm

/-- A port as a byte that is data finds it: under CODES its flow state is running when resume-any is set (R119). -/
def Port.heedsAny (x : Port) : Port :=
  if x.profile.flow = .codes ∧ x.profile.resumeAny = true then Port.judge { x with flow := .running } else x

theorem State.jobByte_data (data : (s.port p).profile.flow ≠ .codes ∨ error = true ∨
    (d ≠ (s.port p).profile.pauseCode ∧ d ≠ (s.port p).profile.resumeCode)) :
    s.jobByte p d error = (s.setPort p (s.port p).heedsAny).dataByte p d := by
  by_cases flow : (s.port p).profile.flow = .codes
  · have noCode : (!error && decide (d = (s.port p).profile.pauseCode)) ≠ true ∧
        (!error && decide (d = (s.port p).profile.resumeCode)) ≠ true := by
      rcases data with other | wrong | ⟨pause, resume⟩
      · exact absurd flow other
      · simp [wrong]
      · simp [pause, resume]
    rw [State.jobByte, if_pos flow, if_neg noCode.1, if_neg noCode.2, Port.heedsAny]
    by_cases any : (s.port p).profile.resumeAny = true
    · rw [if_pos any, if_pos ⟨flow, any⟩]
      rfl
    · rw [if_neg any, if_neg fun both => any both.2, State.setPort_port]
  · rw [State.jobByte, if_neg flow, Port.heedsAny, if_neg fun both => flow both.1, State.setPort_port]

/-- Resume-any changes the flow state and what the judgements say, and nothing else. -/
theorem Port.heedsAny_eq (x : Port) : ∃ (flow : FlowState) (paused hold : Bool) (slot : Option FlowCode)
    (idle stall : Option Nat), x.heedsAny =
      { x with flow := flow, paused := paused, hold := hold, slot := slot, idleTimer := idle, stallTimer := stall } := by
  unfold Port.heedsAny
  split
  · obtain ⟨paused, hold, slot, idle, stall, e⟩ := Port.judge_eq { x with flow := .running }
    exact ⟨.running, paused, hold, slot, idle, stall, e⟩
  · exact ⟨x.flow, x.paused, x.hold, x.slot, x.idleTimer, x.stallTimer, rfl⟩

/-! ## The byte stored -/

variable {y : Port} {b : BufId} {bytes : List Byte}

theorem State.dataByte_stray (noJob : y.state.isJob = false) : (s.setPort p y).dataByte p d =
    s.setPort p { y with counters := { y.counters with strayBytes := bump y.counters.strayBytes } } := by
  rw [State.dataByte, State.port_setPort_self, if_neg (Bool.eq_false_iff.1 noJob), State.mapPort,
    State.port_setPort_self, State.setPort_setPort]
  rfl

theorem State.dataByte_stores (job : y.state.isJob = true) :
    (s.setPort p y).dataByte p d = (s.setPort p y).storeByte p d := by
  rw [State.dataByte, State.port_setPort_self, if_pos job]

theorem State.storeByte_overrun (none : y.filling = none) : (s.setPort p y).storeByte p d =
    s.setPort p { y with counters := { y.counters with overruns := bump y.counters.overruns } } := by
  rw [State.storeByte, State.port_setPort_self, none]
  dsimp only
  rw [State.mapPort, State.port_setPort_self, State.setPort_setPort]
  rfl

/-- A port with one more byte in its filling buffer b (R134, R135). -/
def Port.stored (b : BufId) (bytes : List Byte) (y : Port) : Port :=
  { y.setInb b (.filling bytes) with gatherTimer := some y.profile.gatherTime.toNat }

theorem State.storeByte_filling (filling : y.filling = some (b, bytes)) : (s.setPort p y).storeByte p d =
    if y.frameSize = some (bytes.length + 1) then (s.setPort p (y.stored b (bytes ++ [d]))).handFilling p
    else s.setPort p (y.stored b (bytes ++ [d])).judge := by
  rw [State.storeByte, State.port_setPort_self, filling]
  simp only [State.mapPort, State.port_setPort_self, State.setPort_setPort]
  rfl

theorem Port.filling_stored (more : List Byte) (filling : y.filling = some (b, bytes)) :
    (y.stored b more).filling = some (b, more) := Port.filling_setInb more filling

theorem Port.stored_eq (y : Port) (b : BufId) (bytes : List Byte) : (y.stored b bytes).flow = y.flow ∧
    (y.stored b bytes).counters = y.counters ∧ (y.stored b bytes).inb b.other = y.inb b.other := by
  cases b <;> exact ⟨rfl, rfl, rfl⟩

end

/-- Settles O40: a break, the codes, a byte that is data, and the format, the break and the errors of a character. -/
theorem characterAtAJobPort : Obligations.CharacterAtAJobPort := by
  refine ⟨fun s p c f error x y running kind format error_ x_ y_ => ?_, fun x c => ⟨fun none => ?_, fun n f loads old => ?_⟩,
    fun f c ones ones_ => ⟨RxChar.isBreak_iff f c, ?_, ?_⟩, fun n parity framing => rfl⟩
  · have event (noBreak : RxChar.isBreak f c = false) :
        exec (.portCharacterReceived p c) s = .next ((s.counted p c f).jobByte p c.data error) := by
      rw [exec_character_job running kind format noBreak, error_]
    have counted : s.counted p c f = s.setPort p x := by rw [x_]; rfl
    have port : (s.counted p c f).port p = x := by rw [counted, State.port_setPort_self]
    have profile : x.profile = (s.port p).profile := by rw [x_]
    have heeds : y = x.heedsAny := by
      rw [y_, Port.heedsAny, profile]
    obtain ⟨flow, paused, hold, slot, idle, stall, same⟩ := x.heedsAny_eq
    have state : y.state = (s.port p).state := by rw [heeds, same, x_]
    have frameSize : y.frameSize = (s.port p).frameSize := by rw [heeds, same, x_]
    have counters : y.counters = x.counters := by rw [heeds, same]
    have profile' : y.profile = (s.port p).profile := by rw [heeds, same, profile]
    have inb (b : BufId) : y.inb b = (s.port p).inb b := by rw [heeds, same, x_]; cases b <;> rfl
    have fills : y.filling = (s.port p).filling := Port.filling_congr (inb .b0) (inb .b1)
    refine ⟨fun isBreak => ?_, fun noBreak codes ok pause => ?_, fun noBreak codes ok resume other => ?_,
      fun noBreak data => ?_⟩
    · rw [exec_character_break running (by rw [← format]; exact isBreak), State.takeBreak]
      simp only [State.mapPort, State.port_setPort_self, State.setPort_setPort, kind]
      rfl
    · rw [event noBreak, ok, State.jobByte_pause, port, counted, State.setPort_setPort]
      · rw [port, profile]
        exact codes
      · rw [port, profile]
        exact pause
    · rw [event noBreak, ok, State.jobByte_resume, port, counted, State.setPort_setPort]
      · rw [port, profile]
        exact codes
      · rw [port, profile]
        exact resume
      · rw [port, profile]
        exact other
    · have stores : exec (.portCharacterReceived p c) s = .next ((s.setPort p y).dataByte p c.data) := by
        rw [event noBreak, State.jobByte_data (by rw [port, profile]; exact data), port, ← heeds, counted,
          State.setPort_setPort]
      refine ⟨fun noJob => ?_, fun job none => ?_, fun b bytes job filling short => ?_,
        fun b bytes h job filling full holding => ?_⟩
      · rw [stores, State.dataByte_stray (by rw [state]; exact noJob)]
      · rw [stores, State.dataByte_stores (by rw [state]; exact job), State.storeByte_overrun (fills.trans none)]
      · rw [stores, State.dataByte_stores (by rw [state]; exact job), State.storeByte_filling (fills.trans filling),
          if_neg (by rw [frameSize]; exact short), Port.stored, profile']
      · have here := fills.trans filling
        have hands : exec (.portCharacterReceived p c) s =
            .next (((s.setPort p (y.stored b (bytes ++ [c.data]))).handTo p b (bytes ++ [c.data]) h.link).mapPort p
              (fun x => x.startFilling.judge)) := by
          rw [stores, State.dataByte_stores (by rw [state]; exact job), State.storeByte_filling here,
            if_pos (frameSize.trans full)]
          refine congrArg _ (State.handFilling_hands ?_ (by simp) holding)
          rw [State.port_setPort_self]
          exact Port.filling_stored _ here
        have after := (s.setPort p (y.stored b (bytes ++ [c.data]))).port_handed p b (bytes ++ [c.data]) h.link
        rw [State.port_setPort_self] at after
        obtain ⟨handed, timer, flow_, counters_, other⟩ :=
          (y.stored b (bytes ++ [c.data])).handedOver b (bytes ++ [c.data]) h.link
        obtain ⟨sameFlow, sameCounters, sameOther⟩ := y.stored_eq b (bytes ++ [c.data])
        refine ⟨_, hands, ?_, ?_, ?_, ?_, fun free => ?_, ?_⟩
        · rw [after, handed]
        · rw [after, timer]
        · rw [after, flow_, sameFlow]
        · rw [after, counters_, sameCounters, counters]
        · rw [after]
          refine other ?_
          rw [sameOther, inb]
          exact free
        · rw [State.link_handed, if_pos rfl]
          show (s.link h.link).dataQ ++ _ = _
          rw [List.length_append]
          rfl
  · rw [Port.rxFormat, none]
    rfl
  · rw [Port.rxFormat, loads, List.getD_cons_succ, List.getD_eq_getElem?_getD, old]
    rfl
  · rw [ones_, ones_eq]
    exact RxChar.parityError_iff f c
  · exact Bool.not_eq_true' c.stop1 ▸ Iff.rfl

end Sys2Proof.Machine
end

section
/-! PROOF. The synthetic UPs: a panel that leaves IDLE (R144, R148, R160) and the end of a zone's lease (R87, R97, R99,
R159). -/

namespace Sys2Proof.Machine

theorem contactIds_sorted : contactIds.Pairwise (fun a b => a < b) := by decide

theorem contactIds_nodup : contactIds.Nodup := by decide

theorem State.contact_of_port {s t : State} {p : PortId} (same : t.port p = s.port p) (c : ContactId) :
    t.contact p c = s.contact p c := by
  rw [State.contact, same, State.contact]

/-! ## A panel leaves IDLE -/

/-- The synthetic UP that link k is sent when contact c of panel p is freed, if it is sent one (R160). -/
def State.upOf (s : State) (p : PortId) (k : LinkId) (c : ContactId) : Option Report :=
  match (s.contact p c).state with
  | .captured z =>
    if s.holder (.zone z) = some k then some ⟨some z, p, .up, c, (s.contact p c).lastX, (s.contact p c).lastY⟩ else none
  | .free => none
  | .detached => none

section
variable {s t : State} {p q : PortId} {k : LinkId} {c d : ContactId}

theorem State.upsOfPanel_eq (s : State) (p : PortId) (k : LinkId) : s.upsOfPanel p k = contactIds.filterMap (s.upOf p k) :=
  rfl

theorem State.upOf_congr (contact : t.contact p c = s.contact p c) (lease : ∀ r : Resource, t.lease r = s.lease r) :
    t.upOf p k c = s.upOf p k c := by
  have holder (r : Resource) : t.holder r = s.holder r := congrArg (fun l : Lease => l.holding.map Holding.link) (lease r)
  rw [State.upOf, contact, State.upOf]
  split
  · rw [holder]
  · rfl
  · rfl

theorem State.upOf_eq_some {r : Report} : s.upOf p k c = some r ↔ ∃ z : ZoneId, (s.contact p c).state = .captured z ∧
    s.holder (.zone z) = some k ∧ r = ⟨some z, p, .up, c, (s.contact p c).lastX, (s.contact p c).lastY⟩ := by
  unfold State.upOf
  split
  · next z captured =>
    rw [captured, Option.ite_none_right_eq_some, Option.some.injEq]
    constructor
    · rintro ⟨holder, rfl⟩
      exact ⟨z, rfl, holder, rfl⟩
    · rintro ⟨_, same, holder, rfl⟩
      obtain rfl := ContactState.captured.inj same
      exact ⟨holder, rfl⟩
  · next free => simp [free]
  · next detached => simp [detached]

theorem State.mem_upsOfPanel {r : Report} : r ∈ s.upsOfPanel p k ↔
    ∃ (c : ContactId) (z : ZoneId), (s.contact p c).state = .captured z ∧ s.holder (.zone z) = some k ∧
      r = ⟨some z, p, .up, c, (s.contact p c).lastX, (s.contact p c).lastY⟩ := by
  simp only [State.upsOfPanel_eq, List.mem_filterMap, mem_contactIds, true_and, State.upOf_eq_some]

theorem State.upsOfPanel_sorted (s : State) (p : PortId) (k : LinkId) :
    (s.upsOfPanel p k).Pairwise (fun a b => a.contact < b.contact) := by
  rw [State.upsOfPanel_eq, List.pairwise_filterMap]
  refine contactIds_sorted.imp fun {a b} lt r first r' second => ?_
  obtain ⟨-, -, -, rfl⟩ := State.upOf_eq_some.1 first
  obtain ⟨-, -, -, rfl⟩ := State.upOf_eq_some.1 second
  exact lt

/-- The holder of the zone that captured a contact is sent its synthetic UP (R160). -/
def State.tellUp (s : State) (p : PortId) (c : ContactId) : State :=
  match (s.contact p c).state with
  | .captured z => match s.holder (.zone z) with | none => s | some k => s.syntheticUp p c z k
  | .free => s
  | .detached => s

theorem State.port_tellUp (s : State) (p : PortId) (c : ContactId) (q : PortId) : (s.tellUp p c).port q = s.port q := by
  unfold State.tellUp
  split
  · split <;> rfl
  · rfl
  · rfl

theorem State.freeContact_eq (s : State) (p : PortId) (c : ContactId) :
    s.freeContact p c = (s.tellUp p c).setContact p c { s.contact p c with state := .free } := by
  rw [← State.contact_of_port (s.port_tellUp p c p) c]
  rfl

theorem State.link_syntheticUp {z : ZoneId} (j : LinkId) : (s.syntheticUp p c z j).link k =
    if k = j then (s.link k).takeReport ⟨some z, p, .up, c, (s.contact p c).lastX, (s.contact p c).lastY⟩
    else s.link k := by
  rw [State.syntheticUp, State.queueReport, State.link_mapLink]
  split
  · next same => rw [same]
  · rfl

theorem State.link_tellUp (s : State) (p : PortId) (c : ContactId) (k : LinkId) :
    (s.tellUp p c).link k = (s.link k).takeReports (s.upOf p k c).toList := by
  unfold State.tellUp State.upOf
  cases (s.contact p c).state with
  | free => rfl
  | detached => rfl
  | captured z =>
    dsimp only
    cases s.holder (.zone z) with
    | none => rfl
    | some j =>
      dsimp only
      rw [State.link_syntheticUp]
      by_cases same : k = j
      · rw [if_pos same, if_pos (by rw [same])]
        rfl
      · rw [if_neg same, if_neg fun e => same (Option.some.inj e).symm]
        rfl

theorem State.link_freeContact (s : State) (p : PortId) (c : ContactId) (k : LinkId) :
    (s.freeContact p c).link k = (s.link k).takeReports (s.upOf p k c).toList := by
  rw [State.freeContact_eq]
  exact s.link_tellUp p c k

theorem State.contact_freeContact (s : State) (p q : PortId) (c d : ContactId) : (s.freeContact p c).contact q d =
    if q = p ∧ d = c then { s.contact p c with state := .free } else s.contact q d := by
  rw [State.freeContact_eq, State.contact_setContact, State.contact_of_port (s.port_tellUp p c q) d]

theorem State.lease_freeContact (s : State) (p : PortId) (c : ContactId) (r : Resource) :
    (s.freeContact p c).lease r = s.lease r := (s.keepsAt_freeContact r p c).lease

theorem State.assembler_freeContact (s : State) (p : PortId) (c : ContactId) (q : PortId) :
    ((s.freeContact p c).port q).assembler = (s.port q).assembler := by
  rw [State.freeContact_eq, State.setContact, State.port_mapPort]
  split
  · next same => rw [same, State.port_tellUp]
  · rw [State.port_tellUp]

theorem Link.takeReports_append (as bs : List Report) (l : Link) :
    l.takeReports (as ++ bs) = (l.takeReports as).takeReports bs := List.foldl_append

theorem State.link_freed (p : PortId) (k : LinkId) : ∀ (cs : List ContactId) (s : State), cs.Nodup →
    (cs.foldl (fun t c => t.freeContact p c) s).link k = (s.link k).takeReports (cs.filterMap (s.upOf p k))
  | [], _, _ => rfl
  | c :: cs, s, nodup => by
    obtain ⟨fresh, rest⟩ := List.nodup_cons.1 nodup
    have later : cs.filterMap ((s.freeContact p c).upOf p k) = cs.filterMap (s.upOf p k) := by
      refine List.filterMap_congr fun d mem => State.upOf_congr ?_ (s.lease_freeContact p c)
      rw [State.contact_freeContact, if_neg]
      rintro ⟨-, rfl⟩
      exact fresh mem
    rw [List.foldl_cons, State.link_freed p k cs _ rest, later, State.link_freeContact, ← Link.takeReports_append]
    cases first : s.upOf p k c with
    | none => rw [List.filterMap_cons_none first]; rfl
    | some r => rw [List.filterMap_cons_some first]; rfl

theorem State.contact_freed (p q : PortId) (d : ContactId) : ∀ (cs : List ContactId) (s : State),
    (cs.foldl (fun t c => t.freeContact p c) s).contact q d =
      if q = p ∧ d ∈ cs then { s.contact p d with state := .free } else s.contact q d
  | [], s => by simp
  | c :: cs, s => by
    rw [List.foldl_cons, State.contact_freed p q d cs, State.contact_freeContact, State.contact_freeContact]
    by_cases port : q = p
    · by_cases same : d = c
      · subst port same
        simp
      · simp [same]
    · simp [port]

/-- The panel with its assembler waiting, as it leaves IDLE (R160). -/
def State.assemblerWaits (s : State) (p : PortId) : State := s.mapPort p (fun x => { x with assembler := .waiting })

theorem State.panelLeavesIdle_eq (s : State) (p : PortId) :
    s.panelLeavesIdle p = contactIds.foldl (fun t c => t.freeContact p c) (s.assemblerWaits p) := rfl

theorem State.contact_assemblerWaits (s : State) (p q : PortId) (c : ContactId) :
    (s.assemblerWaits p).contact q c = s.contact q c := by
  have contacts : ((s.assemblerWaits p).port q).contacts = (s.port q).contacts := by
    rw [State.assemblerWaits, State.port_mapPort]
    split
    · next same => rw [same]
    · rfl
  rw [State.contact, contacts, State.contact]

theorem State.contact_panelLeavesIdle (s : State) (p : PortId) (c : ContactId) :
    (s.panelLeavesIdle p).contact p c = { s.contact p c with state := .free } := by
  rw [State.panelLeavesIdle_eq, State.contact_freed, if_pos ⟨rfl, mem_contactIds c⟩, State.contact_assemblerWaits]

theorem State.assembler_panelLeavesIdle (s : State) (p : PortId) :
    ((s.panelLeavesIdle p).port p).assembler = .waiting := by
  rw [State.panelLeavesIdle_eq]
  refine (foldl_keeps (fun t => (t.port p).assembler) _ (fun t c => t.assembler_freeContact p c p) _ _).trans ?_
  rw [State.assemblerWaits, State.port_mapPort_self]

theorem State.link_panelLeavesIdle (s : State) (p : PortId) (k : LinkId) :
    (s.panelLeavesIdle p).link k = (s.link k).takeReports (s.upsOfPanel p k) := by
  have same : contactIds.filterMap ((s.assemblerWaits p).upOf p k) = s.upsOfPanel p k :=
    List.filterMap_congr fun c _ => State.upOf_congr (s.contact_assemblerWaits p p c) fun r => s.lease_mapPort p _ r
  rw [State.panelLeavesIdle_eq, State.link_freed p k _ _ contactIds_nodup, same]
  rfl

theorem State.lease_panelLeavesIdle (s : State) (p : PortId) : (s.panelLeavesIdle p).lease = s.lease :=
  funext fun r => (s.keepsAt_panelLeavesIdle r p).lease

end

/-! ## What a PANEL port does -/

section
variable {t : State} {p : PortId} {was : Bool}

theorem State.panelFollows_disabled (st : (t.port p).state = .disabled) : t.panelFollows p was = t := by
  rw [State.panelFollows, st]

theorem State.panelFollows_offline (st : (t.port p).state = .offline) :
    t.panelFollows p was = if !was && (t.port p).isReady then t.enterIdle p else t := by
  rw [State.panelFollows, st]

theorem State.panelFollows_idle (st : (t.port p).state = .idle) : t.panelFollows p was =
    if was && !(t.port p).isReady then (t.panelLeavesIdle p).setPortState p .offline else t := by
  rw [State.panelFollows, st]

end

/-- A panel's answer to a line taken, when its line states were not both these before. -/
theorem State.panelFollows_answers {s t : State} {p : PortId} {ready fault : Bool}
    (panel : (t.port p).profile.kind = .panel) (state : (t.port p).state = (s.port p).state)
    (now : (t.port p).isReady = (ready && !fault)) (changed : (s.port p).isReady = true → ready = false ∨ fault = true)
    (was : ready = true → fault = false → (s.port p).isReady = false) :
    ((s.port p).state = .offline → ready = true → fault = false →
      t.panelFollows p (s.port p).isReady = t.setPortState p .idle) ∧
    ((s.port p).state = .idle → (s.port p).isReady = true →
      t.panelFollows p (s.port p).isReady = (t.panelLeavesIdle p).setPortState p .offline) ∧
    ((s.port p).state = .offline → ready = false ∨ fault = true → t.panelFollows p (s.port p).isReady = t) ∧
    ((s.port p).state = .disabled → t.panelFollows p (s.port p).isReady = t) := by
  refine ⟨fun st isReady noFault => ?_, fun st wasReady => ?_, fun st notReady => ?_, fun st => ?_⟩
  · rw [State.panelFollows_offline (state.trans st), now, was isReady noFault, isReady, noFault]
    exact State.enterIdle_rests rfl (.inr (.inl panel))
  · rw [State.panelFollows_idle (state.trans st), now, wasReady, if_pos]
    rcases changed wasReady with ready | fault
    · rw [ready]; rfl
    · rw [fault, Bool.not_true, Bool.and_false]; rfl
  · rw [State.panelFollows_offline (state.trans st), now, if_neg]
    rcases notReady with ready | fault
    · simp [ready]
    · simp [fault]
  · exact State.panelFollows_disabled (state.trans st)

/-- Settles O37: the two lines taken, then what a panel that leaves IDLE does. -/
theorem panelPortFollowsItsLines : Obligations.PanelPortFollowsItsLines := by
  refine ⟨fun s t p ready fault c running panel event => ?_,
    fun s p => ⟨s.assembler_panelLeavesIdle p, s.contact_panelLeavesIdle p, s.link_panelLeavesIdle p,
      s.lease_panelLeavesIdle p, (s.workedAt_panelLeavesIdle p).ports⟩,
    fun s p k r => State.mem_upsOfPanel, State.upsOfPanel_sorted⟩
  have answers : exec c s = .next (t.panelFollows p (s.port p).isReady) ∧ (t.port p).profile = (s.port p).profile ∧
      (t.port p).state = (s.port p).state ∧ (t.port p).isReady = (ready && !fault) ∧
      ((s.port p).isReady = true → ready = false ∨ fault = true) ∧
      (ready = true → fault = false → (s.port p).isReady = false) := by
    rcases event with ⟨rfl, rfl, changed, held, pin, at_⟩ | ⟨rfl, rfl, changed, held, pin, at_⟩
    · have taken : t = s.readyTaken p ready := at_
      subst taken
      refine ⟨?_, ?_, ?_, s.isReady_readyTaken p ready, fun was => .inl ?_, fun up _ => ?_⟩
      · rw [exec_readyChangeTaken_due running held pin, State.takeReady_panel pin changed.symm panel]
      · rw [State.port_readyTaken]
      · rw [State.port_readyTaken]
      · rw [Port.isReady, Bool.and_eq_true] at was
        rw [was.1] at changed
        exact Bool.eq_false_iff.2 changed
      · rw [up] at changed
        rw [Port.isReady, Bool.eq_false_iff.2 changed.symm, Bool.false_and]
    · have taken : t = s.faultTaken p fault := at_
      subst taken
      refine ⟨?_, ?_, ?_, s.isReady_faultTaken p fault, fun was => .inr ?_, fun _ clear => ?_⟩
      · rw [exec_faultChangeTaken_due running held pin, State.takeFault_panel pin changed.symm panel]
      · rw [State.port_faultTaken]
      · rw [State.port_faultTaken]
      · rw [Port.isReady, Bool.and_eq_true, Bool.not_eq_true'] at was
        rw [was.2] at changed
        exact Bool.not_eq_false _ ▸ changed
      · rw [clear] at changed
        have old : (s.port p).fault = true := (Bool.not_eq_false _).mp changed.symm
        rw [Port.isReady, old, Bool.not_true, Bool.and_false]
  obtain ⟨exec_, profile, state, now, changed, was⟩ := answers
  rw [exec_]
  obtain ⟨rises, leaves, stays, disabled⟩ :=
    State.panelFollows_answers (by rw [profile]; exact panel) state now changed was
  exact ⟨fun st isReady noFault => congrArg _ (rises st isReady noFault), fun st wasReady => congrArg _ (leaves st wasReady),
    fun st notReady => congrArg _ (stays st notReady), fun st => congrArg _ (disabled st)⟩

end Sys2Proof.Machine
end

section
/-! PROOF. The end of a zone's lease (R87, R97, R99, R159). -/

namespace Sys2Proof.Machine

/-! ## The contacts detached -/

section
variable (s : State) (p : PortId) (z : ZoneId)

/-- The synthetic UPs of those of cs that zone z has captured (R159). -/
def State.upsAmong (cs : List ContactId) : List Report :=
  (cs.filter (fun c => (s.contact p c).state == .captured z)).map
    (fun c => ⟨some z, p, .up, c, (s.contact p c).lastX, (s.contact p c).lastY⟩)

theorem State.upsOfZone_eq : s.upsOfZone p z = s.upsAmong p z contactIds := rfl

theorem State.mem_upsOfZone {r : Report} : r ∈ s.upsOfZone p z ↔ ∃ c : ContactId,
    (s.contact p c).state = .captured z ∧ r = ⟨some z, p, .up, c, (s.contact p c).lastX, (s.contact p c).lastY⟩ := by
  simp only [State.upsOfZone, List.mem_map, List.mem_filter, mem_contactIds, true_and, beq_iff_eq, @eq_comm _ r]

theorem State.upsOfZone_sorted : (s.upsOfZone p z).Pairwise (fun a b => a.contact < b.contact) :=
  List.pairwise_map.2 (contactIds_sorted.sublist List.filter_sublist)

variable {s p z}

theorem State.upsAmong_captured {c : ContactId} {cs : List ContactId} (captured : (s.contact p c).state = .captured z) :
    s.upsAmong p z (c :: cs) =
      ⟨some z, p, .up, c, (s.contact p c).lastX, (s.contact p c).lastY⟩ :: s.upsAmong p z cs := by
  rw [State.upsAmong, List.filter_cons_of_pos (p := fun d => (s.contact p d).state == .captured z) (beq_iff_eq.2 captured)]
  rfl

theorem State.upsAmong_other {c : ContactId} {cs : List ContactId} (other : (s.contact p c).state ≠ .captured z) :
    s.upsAmong p z (c :: cs) = s.upsAmong p z cs := by
  rw [State.upsAmong, List.filter_cons_of_neg (by simpa using other)]
  rfl

theorem State.upsAmong_congr {t : State} {cs : List ContactId}
    (same : ∀ c ∈ cs, t.contact p c = s.contact p c) : t.upsAmong p z cs = s.upsAmong p z cs := by
  induction cs with
  | nil => rfl
  | cons c cs ih =>
    have rest := ih fun d mem => same d (List.mem_cons_of_mem c mem)
    have first := same c List.mem_cons_self
    by_cases captured : (s.contact p c).state = .captured z
    · rw [State.upsAmong_captured (s := s) captured, State.upsAmong_captured (s := t) (by rw [first]; exact captured),
        first, rest]
    · rw [State.upsAmong_other (s := s) captured, State.upsAmong_other (s := t) (by rw [first]; exact captured), rest]

variable {tell : Option LinkId}

theorem State.link_detach (c : ContactId) (k : LinkId) : (s.detach p z tell c).link k =
    if tell = some k then (s.link k).takeReports (s.upsAmong p z [c]) else s.link k := by
  unfold State.detach
  dsimp only
  split
  · next captured =>
    rw [State.upsAmong_captured captured, State.setContact, State.link_of_mapPort]
    cases tell with
    | none => rfl
    | some j =>
      dsimp only
      rw [State.link_syntheticUp]
      by_cases same : k = j
      · rw [if_pos same, if_pos (by rw [same])]
        rfl
      · rw [if_neg same, if_neg fun e => same (Option.some.inj e).symm]
  · next other =>
    rw [State.upsAmong_other other]
    exact (ite_self _).symm

theorem State.link_detached (k : LinkId) : ∀ (cs : List ContactId) (s : State), cs.Nodup →
    (cs.foldl (fun t c => t.detach p z tell c) s).link k =
      if tell = some k then (s.link k).takeReports (s.upsAmong p z cs) else s.link k
  | [], _, _ => (ite_self _).symm
  | c :: cs, s, nodup => by
    obtain ⟨fresh, rest⟩ := List.nodup_cons.1 nodup
    have later : (s.detach p z tell c).upsAmong p z cs = s.upsAmong p z cs := by
      refine State.upsAmong_congr fun d mem => ?_
      rw [State.contact_detach, if_neg]
      rintro ⟨-, rfl, -⟩
      exact fresh mem
    rw [List.foldl_cons, State.link_detached k cs _ rest, later, State.link_detach]
    by_cases told : tell = some k
    · rw [if_pos told, if_pos told, if_pos told, ← Link.takeReports_append]
      refine congrArg (Link.takeReports · (s.link k)) ?_
      by_cases captured : (s.contact p c).state = .captured z
      · rw [State.upsAmong_captured captured, State.upsAmong_captured captured]
        rfl
      · rw [State.upsAmong_other captured, State.upsAmong_other captured]
        rfl
    · rw [if_neg told, if_neg told, if_neg told]

theorem State.link_detachZone (s : State) (z : ZoneId) (tell : Option LinkId) (k : LinkId) :
    (s.detachZone z tell).link k =
      if tell = some k then (s.link k).takeReports (s.upsOfZone (s.zone z).panel z) else s.link k :=
  State.link_detached k contactIds s contactIds_nodup

theorem State.waits_detachZone (s : State) (z : ZoneId) (tell : Option LinkId) : (s.detachZone z tell).waits = s.waits := by
  refine foldl_keeps State.waits _ (fun t c => ?_) _ s
  unfold State.detach
  dsimp only
  split
  · split <;> rfl
  · rfl

theorem State.port_detachZone_ne (s : State) (z : ZoneId) (tell : Option LinkId) {q : PortId} (ne : q ≠ (s.zone z).panel) :
    (s.detachZone z tell).port q = s.port q := by
  refine foldl_keeps (fun t => t.port q) _ (fun t c => ?_) _ s
  unfold State.detach
  dsimp only
  split
  · rw [State.setContact, State.port_mapPort, if_neg ne]
    split <;> rfl
  · rfl

end

/-! ## The lease ended -/

/-- In e the lease of zone z has ended and its contacts are detached; the head of the queue has not been granted. -/
structure State.ZoneEnded (s e : State) (z : ZoneId) (tell : Option LinkId) : Prop where
  link : ∀ k : LinkId, e.link k = { (s.detachZone z tell).link k with notices := (e.link k).notices }
  port : ∀ q : PortId, e.port q = (s.detachZone z tell).port q
  up : ∀ k : LinkId, (e.link k).up = (s.link k).up
  waits : e.waits = s.waits
  lease : e.lease (.zone z) = .free
  zone : e.zone z = s.zone z

section
variable {s e : State} {z : ZoneId} {tell : Option LinkId}

/-- The lease of a zone free, with its contacts detached (R159). -/
def State.zoneFreed (s : State) (z : ZoneId) (tell : Option LinkId) : State :=
  (s.detachZone z tell).setLease (.zone z) .free

theorem State.zoneEnded_zoneFreed (s : State) (z : ZoneId) (tell : Option LinkId) :
    s.ZoneEnded (s.zoneFreed z tell) z tell where
  link k := by rw [State.zoneFreed, State.link_setLease]
  port q := State.port_setLease _ _ _ q
  up := ((s.worked_detachZone z tell).trans (State.worked_setLease _ _ _)).up
  waits := (State.waits_setLease _ _ _).trans (s.waits_detachZone z tell)
  lease := State.lease_setLease_self _ _ _
  zone := by
    rw [State.zoneFreed, State.zone_setLease, State.zone, (s.worked_detachZone z tell).zones, ← State.zone]

theorem State.ZoneEnded.enterNotice (h : s.ZoneEnded e z tell) (j : LinkId) (n : Notice) :
    s.ZoneEnded (e.enterNotice j n) z tell where
  link k := by
    rw [(e.told_enterNotice j n).link k, h.link k]
  port q := (e.port_enterNotice j n q).trans (h.port q)
  up k := ((e.worked_enterNotice j n).up k).trans (h.up k)
  waits := (e.waits_enterNotice j n).trans h.waits
  lease := (e.lease_enterNotice j n _).trans h.lease
  zone := (e.zone_enterNotice j n z).trans h.zone

theorem State.ZoneEnded.noticeRevoked (h : s.ZoneEnded e z tell) (r : Resource) (x : Holding) (why : RevokeReason) :
    s.ZoneEnded (e.noticeRevoked r x why) z tell := by
  cases why with
  | cause c => exact h.enterNotice x.link _
  | linkDown => exact h

theorem State.noticeRevoked_cause (e : State) (r : Resource) (h : Holding) (c : Cause) :
    e.noticeRevoked r h (.cause c) = e.enterNotice h.link ⟨.revoked c, r, h.tag⟩ := rfl

/-- A queue's head granted a zone, or nothing (R77, R82, R84). -/
theorem State.grantHead_zone (e : State) (z : ZoneId) : e.grantHead (.zone z) = e ∨
    ∃ (ws : List Wait) (w : Wait), e.grantHead (.zone z) =
      ((e.setWaits ws).setLease (.zone z) (.held ⟨w.link, w.cls, w.tag⟩)).enterNotice w.link ⟨.granted, .zone z, w.tag⟩ := by
  cases grantable : e.grantable (.zone z) with
  | false => exact .inl (State.grantHead_none (.inl grantable))
  | true =>
    cases queue : e.queueOf (.zone z) with
    | nil => exact .inl (State.grantHead_none (.inr queue))
    | cons w ws => exact .inr ⟨_, w, State.grantHead_head grantable queue⟩

theorem State.port_grantHead_zone (e : State) (z : ZoneId) (q : PortId) : (e.grantHead (.zone z)).port q = e.port q := by
  rcases e.grantHead_zone z with same | ⟨ws, w, grants⟩
  · rw [same]
  · rw [grants, State.port_enterNotice, State.port_setLease]
    rfl

theorem State.link_grantHead_zone (e : State) (z : ZoneId) (k : LinkId) : (e.grantHead (.zone z)).link k =
    { e.link k with notices := ((e.grantHead (.zone z)).link k).notices } := by
  rcases e.grantHead_zone z with same | ⟨ws, w, grants⟩
  · rw [same]
  · rw [grants, (State.told_enterNotice _ _ _).link k, State.link_setLease]
    rfl

/-- A notice of a kind other than GRANTED stays pending when the head of a queue is granted. -/
theorem State.mem_grantHead_zone {k : LinkId} {n : Notice} (other : n.body.rank ≠ 4) :
    n ∈ ((e.grantHead (.zone z)).link k).notices ↔ n ∈ (e.link k).notices := by
  rcases e.grantHead_zone z with same | ⟨ws, w, grants⟩
  · rw [same]
  · rw [grants, State.mem_enterNotice_other (.inr (.inr (.inl rfl))) other, State.link_setLease]
    rfl

section
variable (h : s.ZoneEnded e z tell)
include h

theorem State.ZoneEnded.contact (c : ContactId) : (e.grantHead (.zone z)).contact (s.zone z).panel c =
    if (s.contact (s.zone z).panel c).state = .captured z then
      { s.contact (s.zone z).panel c with state := .detached } else s.contact (s.zone z).panel c := by
  rw [State.contact_of_port ((e.port_grantHead_zone z _).trans (h.port _)), State.contact_detachZone]
  simp only [true_and]

theorem State.ZoneEnded.granted {w : Wait} {ws : List Wait} (queue : s.queueOf (.zone z) = w :: ws)
    (enabled : (s.zone z).enabled = true) :
    (e.grantHead (.zone z)).lease (.zone z) = .held ⟨w.link, w.cls, w.tag⟩ ∧
    ((s.link w.link).up = true → (⟨.granted, .zone z, w.tag⟩ : Notice) ∈
      ((e.grantHead (.zone z)).link w.link).notices) := by
  have grantable : e.grantable (.zone z) = true := by
    rw [State.grantable_zone_iff, h.zone]
    exact ⟨enabled, h.lease⟩
  have queue' : e.queueOf (.zone z) = w :: ws := by
    rw [State.queueOf, h.waits]
    exact queue
  rw [State.grantHead_head grantable queue']
  refine ⟨?_, fun up => ?_⟩
  · rw [State.lease_enterNotice, State.lease_grant]
  · refine State.mem_enterNotice_self (.inr (.inr (.inl rfl))) ?_
    exact ((State.worked_grant _ _ _).up w.link).trans ((h.up w.link).trans up)

/-- What the end of a zone's lease leaves, by revoke or by RELEASE (R159). -/
theorem State.ZoneEnded.leaves {p : PortId} (panel : p = (s.zone z).panel) :
    (∀ c : ContactId, (s.contact p c).state = .captured z →
      (e.grantHead (.zone z)).contact p c = { s.contact p c with state := .detached }) ∧
    (∀ c : ContactId, (s.contact p c).state ≠ .captured z → (e.grantHead (.zone z)).contact p c = s.contact p c) ∧
    (∀ k : LinkId, tell = some k → (e.grantHead (.zone z)).link k =
      { (s.link k).takeReports (s.upsOfZone p z) with notices := ((e.grantHead (.zone z)).link k).notices }) ∧
    (∀ k : LinkId, tell ≠ some k → (e.grantHead (.zone z)).link k =
      { s.link k with notices := ((e.grantHead (.zone z)).link k).notices }) ∧
    (s.queueOf (.zone z) = [] →
      (e.grantHead (.zone z)).lease (.zone z) = .free ∧ (e.grantHead (.zone z)).waits = s.waits) ∧
    (∀ (w : Wait) (ws : List Wait), s.queueOf (.zone z) = w :: ws → (s.zone z).enabled = true →
      (e.grantHead (.zone z)).lease (.zone z) = .held ⟨w.link, w.cls, w.tag⟩ ∧
      ((s.link w.link).up = true →
        (⟨.granted, .zone z, w.tag⟩ : Notice) ∈ ((e.grantHead (.zone z)).link w.link).notices)) ∧
    (∀ q : PortId, q ≠ p → (e.grantHead (.zone z)).port q = s.port q) := by
  subst panel
  refine ⟨fun c captured => ?_, fun c other => ?_, fun k told => ?_, fun k untold => ?_, fun empty => ?_,
    fun w ws queue enabled => h.granted queue enabled, fun q ne => ?_⟩
  · rw [h.contact, if_pos captured]
  · rw [h.contact, if_neg other]
  · rw [State.link_grantHead_zone, h.link, State.link_detachZone, if_pos told]
  · rw [State.link_grantHead_zone, h.link, State.link_detachZone, if_neg untold]
  · have none : e.grantHead (.zone z) = e := State.grantHead_none (.inr (by rw [State.queueOf, h.waits]; exact empty))
    rw [none]
    exact ⟨h.lease, h.waits⟩
  · rw [State.port_grantHead_zone, h.port, State.port_detachZone_ne _ _ _ ne]

end

variable {h : Holding}

theorem State.revokeZone_cause (c : Cause) (holding : (s.lease (.zone z)).holding = some h) :
    s.revokeZone z (.cause c) =
      ((s.zoneFreed z (some h.link)).noticeRevoked (.zone z) h (.cause c)).grantHead (.zone z) := by
  rw [State.revokeZone, holding]
  rfl

theorem State.revokeZone_down (holding : (s.lease (.zone z)).holding = some h) :
    s.revokeZone z .linkDown = (s.zoneFreed z none).grantHead (.zone z) := by
  rw [State.revokeZone, holding]
  rfl

end

/-- Settles O48: the three ways a lease ends lead to one grant, and the synthetic UPs. -/
theorem zoneLeaseEndDetachesContacts : Obligations.ZoneLeaseEndDetachesContacts := by
  refine ⟨fun s t z h p tell holding panel ends => ?_, fun s z h c holding up => ?_,
    fun s p z r => s.mem_upsOfZone p z, fun s p z => s.upsOfZone_sorted p z, fun s k z => rfl⟩
  · have ended := s.zoneEnded_zoneFreed z tell
    rcases ends with ⟨c, ends, told⟩ | ⟨ends, told⟩ | ⟨ends, told⟩
    · rw [ends, State.revokeZone_cause c holding, ← told]
      exact (ended.noticeRevoked (.zone z) h (.cause c)).leaves panel
    · rw [ends, State.revokeZone_down holding, ← told]
      exact ended.leaves panel
    · rw [ends, State.releaseZone, ← told]
      exact ended.leaves panel
  · have told := (s.zoneEnded_zoneFreed z (some h.link)).up h.link
    rw [State.revokeZone_cause c holding]
    refine (State.mem_grantHead_zone (show (NoticeBody.revoked c).rank ≠ 4 by simp [NoticeBody.rank])).2 ?_
    rw [State.noticeRevoked_cause, State.link_enterNotice, if_pos ⟨rfl, told.trans up⟩]
    dsimp only
    exact (mem_mergeNotice_revoked c).2 (.inl rfl)

end Sys2Proof.Machine
end

section
/-! PROOF. What the requests of a link leave alone, and what changes the window table (R59). -/

namespace Sys2Proof.Machine

/-! ## The four requests are work -/

section
variable (s : State) (k : LinkId) (r : Resource) (tag : Byte)

theorem State.worked_makeWait : s.Worked (s.makeWait k r tag).state := by
  unfold State.makeWait
  split
  · exact .refl s
  · split
    · exact .refl s
    · exact s.worked_setWaits _

theorem State.worked_claim (wait : Bool) : s.Worked (s.claim k r wait tag).state := by
  unfold State.claim
  split
  · exact .refl s
  split
  · exact .refl s
  split
  · exact s.worked_grant r _
  split
  · exact s.worked_makeWait k r tag
  split <;> exact .refl s

theorem State.worked_performClaim (rights : Rights) (wait : Bool) :
    s.Worked (State.performClaim k r rights wait tag s).state := by
  unfold State.performClaim
  split
  · exact .refl s
  · split
    · exact .refl s
    · exact s.worked_claim k r tag wait

theorem State.worked_releaseWait : s.Worked (s.releaseWait k r).state := by
  unfold State.releaseWait
  split
  · exact s.worked_setWaits _
  · exact .refl s

theorem State.worked_releaseZone (z : ZoneId) : s.Worked (s.releaseZone k z) :=
  ((s.worked_detachZone z _).trans (State.worked_setLease _ _ _)).trans (State.worked_grantHead _ _)

theorem State.worked_judge (p : PortId) : s.Worked (s.mapPort p Port.judge) := by
  obtain ⟨_, _, _, _, _, e⟩ := (s.port p).judge_eq
  refine s.worked_mapPort p _ ?_
  rw [e]
  exact ⟨rfl, rfl, rfl⟩

theorem State.worked_releasePort (p : PortId) (h : Holding) : s.Worked (s.releasePort p h).state := by
  unfold State.releasePort
  dsimp only
  split
  · exact ((s.worked_cut p).trans (State.worked_setLease _ _ _)).trans (State.worked_setPortState _ p _)
  · split
    · exact s.worked_endJob p
    · exact ((s.worked_setLease _ _).trans (State.worked_setPortState _ p _)).trans (State.worked_judge _ p)

theorem State.worked_release : s.Worked (s.release k r).state := by
  unfold State.release
  split
  · split
    · exact .refl s
    · exact s.worked_releaseWait k r
  · split
    · cases r with
      | port p => exact s.worked_releasePort p _
      | zone z =>
        dsimp only [Performed.answered]
        exact s.worked_releaseZone k z
    · exact s.worked_releaseWait k r
  · exact s.worked_releaseWait k r

theorem State.worked_performRelease (rights : Rights) : s.Worked (State.performRelease k r rights s).state := by
  unfold State.performRelease
  split
  · exact .refl s
  · split
    · exact .refl s
    · exact s.worked_release k r

theorem State.worked_stage (p : PortId) (payload : List Byte) : s.Worked (s.mapPort p (Port.stage payload)) := by
  refine s.worked_mapPort p _ ?_
  by_cases free : (s.port p).o0 = none
  · rw [Port.stage_b0 payload free]
    obtain ⟨_, _, _, _, _, e⟩ := Port.judge_eq _
    rw [e]
    exact ⟨rfl, rfl, rfl⟩
  · rw [Port.stage_b1 payload free]
    obtain ⟨_, _, _, _, _, e⟩ := Port.judge_eq _
    rw [e]
    exact ⟨rfl, rfl, rfl⟩

theorem State.worked_takeData (p : PortId) (payload : List Byte) : s.Worked (s.takeData k p payload).state := by
  unfold State.takeData
  dsimp only
  split
  · exact .refl s
  · split <;> exact .refl s
  · split
    · split
      · exact .refl s
      · exact s.worked_stage p payload
    · exact .refl s

theorem State.worked_performData (rights : Rights) (payload : List Byte) :
    s.Worked (State.performData k r rights payload s).state := by
  unfold State.performData
  split
  · exact .refl s
  · split
    · exact .refl s
    · split
      · exact .refl s
      · split
        · exact .refl s
        · exact s.worked_takeData k _ payload

theorem State.worked_performStatus (rights : Rights) : s.Worked (State.performStatus k r rights s).state := by
  unfold State.performStatus
  split <;> exact .refl s

end

/-! ## A handling event -/

/-- Between s and t a request of link k has been handled, and at most what a request may change has changed. -/
structure State.Handled (k : LinkId) (s t : State) : Prop where
  windows : t.windows = s.windows
  zones : t.zones = s.zones
  reportLink : t.reportLink = s.reportLink
  restart : t.restart = s.restart
  inReset : t.inReset = s.inReset
  pending : t.pending = s.pending
  choices : t.choices = s.choices
  lines : ∀ p : PortId, (t.port p).profile = (s.port p).profile ∧ (t.port p).ready = (s.port p).ready ∧
    (t.port p).fault = (s.port p).fault
  links : ∀ j : LinkId, (t.link j).profile = (s.link j).profile ∧ (t.link j).present = (s.link j).present ∧
    (t.link j).ingress = (s.link j).ingress ∧ (t.link j).rx = (s.link j).rx ∧ (t.link j).tx = (s.link j).tx ∧
    (j ≠ k → (t.link j).control = (s.link j).control ∧ (t.link j).hand = (s.link j).hand)

section
variable {s t u : State} {k : LinkId}

theorem State.Handled.refl (k : LinkId) (s : State) : s.Handled k s :=
  ⟨rfl, rfl, rfl, rfl, rfl, rfl, rfl, fun _ => ⟨rfl, rfl, rfl⟩, fun _ => ⟨rfl, rfl, rfl, rfl, rfl, fun _ => ⟨rfl, rfl⟩⟩⟩

theorem State.Handled.trans (h : s.Handled k t) (g : t.Handled k u) : s.Handled k u where
  windows := g.windows.trans h.windows
  zones := g.zones.trans h.zones
  reportLink := g.reportLink.trans h.reportLink
  restart := g.restart.trans h.restart
  inReset := g.inReset.trans h.inReset
  pending := g.pending.trans h.pending
  choices := g.choices.trans h.choices
  lines p := by
    obtain ⟨profile, ready, fault⟩ := h.lines p
    rw [← profile, ← ready, ← fault]
    exact g.lines p
  links j := by
    obtain ⟨profile, present, ingress, rx, tx, other⟩ := h.links j
    obtain ⟨profile', present', ingress', rx', tx', other'⟩ := g.links j
    refine ⟨profile'.trans profile, present'.trans present, ingress'.trans ingress, rx'.trans rx, tx'.trans tx, fun ne => ?_⟩
    obtain ⟨control, hand⟩ := other ne
    obtain ⟨control', hand'⟩ := other' ne
    exact ⟨control'.trans control, hand'.trans hand⟩

theorem State.Worked.handled (h : s.Worked t) (k : LinkId) : s.Handled k t where
  windows := h.windows
  zones := h.zones
  reportLink := h.reportLink
  restart := h.restart
  inReset := h.inReset
  pending := h.pending
  choices := h.choices
  lines p := ⟨h.profile p, h.ready p, h.fault p⟩
  links j := by
    rw [show t.link j = _ from h.links j]
    exact ⟨rfl, rfl, rfl, rfl, rfl, fun _ => ⟨rfl, rfl⟩⟩

theorem State.handled_mapLink (s : State) (k : LinkId) (f : Link → Link)
    (same : (f (s.link k)).profile = (s.link k).profile ∧ (f (s.link k)).present = (s.link k).present ∧
      (f (s.link k)).ingress = (s.link k).ingress ∧ (f (s.link k)).rx = (s.link k).rx ∧
      (f (s.link k)).tx = (s.link k).tx) : s.Handled k (s.mapLink k f) where
  windows := rfl
  zones := rfl
  reportLink := rfl
  restart := rfl
  inReset := rfl
  pending := rfl
  choices := rfl
  lines _ := ⟨rfl, rfl, rfl⟩
  links j := by
    obtain ⟨profile, present, ingress, rx, tx⟩ := same
    rw [State.link_mapLink]
    split
    · next here =>
      subst here
      exact ⟨profile, present, ingress, rx, tx, fun ne => absurd rfl ne⟩
    · exact ⟨rfl, rfl, rfl, rfl, rfl, fun _ => ⟨rfl, rfl⟩⟩

theorem State.handled_prepared (s : State) (k : LinkId) (r : Option Resource) : s.Handled k (s.prepared k r) :=
  s.handled_mapLink k _ (by cases r <;> exact ⟨rfl, rfl, rfl, rfl, rfl⟩)

theorem State.handled_answer (s : State) (k : LinkId) (h : Hand) (a : Answer) : s.Handled k (s.answer k h a) := by
  refine s.handled_mapLink k _ ?_
  unfold Link.placeAnswer
  dsimp only
  split <;> exact ⟨rfl, rfl, rfl, rfl, rfl⟩

theorem State.handled_handle (s : State) (k : LinkId) (h : Hand) (r : Option Resource) {perform : State → Performed}
    (work : ∀ t : State, t.Worked (perform t).state) : s.Handled k (s.handle k h r perform) := by
  have performed := (s.handled_prepared k r).trans ((work (s.prepared k r)).handled k)
  unfold State.handle
  split
  · dsimp only
    split
    · exact performed
    · exact performed.trans (State.handled_answer _ k h _)
  · exact .refl k s

/-- What a command answers is what it does to the running part, or nothing. -/
theorem State.eq_of_live (h : s.live u = .next t) : t = s ∨ t = u := by
  unfold State.live at h
  split at h <;> cases h
  · exact .inl rfl
  · exact .inr rfl

theorem State.handled_live (h : s.live u = .next t) (handled : s.Handled k u) : s.Handled k t := by
  rcases State.eq_of_live h with rfl | rfl
  · exact .refl k t
  · exact handled

theorem handled_exec {c : Instr} (request : c = .claim k ∨ c = .release k ∨ c = .data k ∨ c = .status k)
    (h : exec c s = .next t) : s.Handled k t := by
  rcases request with rfl | rfl | rfl | rfl
  · refine State.handled_live h ?_
    split
    · exact s.handled_handle k _ _ fun u => u.worked_performClaim k _ _ _ _
    · exact .refl k s
  · refine State.handled_live h ?_
    split
    · exact s.handled_handle k _ _ fun u => u.worked_performRelease k _ _
    · exact .refl k s
  · refine State.handled_live h ?_
    split
    · exact s.handled_handle k _ _ fun u => u.worked_performData k _ _ _
    · exact .refl k s
  · refine State.handled_live h ?_
    split
    · exact s.handled_handle k _ _ fun u => u.worked_performStatus k _ _
    · exact .refl k s

end

/-! ## The window table -/

section
variable (s : State) (k : LinkId)

theorem State.windows_replaceZone (z : ZoneId) (x : Zone) : (s.replaceZone z x).windows = s.windows := by
  unfold State.replaceZone
  dsimp only
  split
  · exact (State.worked_grantHead _ _).windows
  · exact (State.worked_dropWaits _ _).windows

theorem State.windows_tearDown : (s.tearDown k).windows = s.windows := by
  have revokes := State.worked_foldl _ (fun t r => t.worked_revokeIfHeldBy k r) allResources (s.stripLink k)
  have returned := State.worked_returnEntries (s.mapLink k Link.tearDown) (s.link k).dataQ
  rw [State.tearDown_eq, revokes.windows]
  unfold State.stripLink
  rw [State.windows_setWaits, returned.windows,
    State.windows_mapLink]

theorem State.windows_replaceLink (j : LinkId) (x : LinkProfile) : (s.replaceLink k j x).1.windows = s.windows := by
  unfold State.replaceLink
  dsimp only
  split
  · rfl
  split
  · rfl
  split
  · rfl
  split
  · exact (State.windows_tearDown (s.mapLink j (Link.loadProfile x)) j).trans (State.windows_mapLink _ _ _)
  · rfl

theorem State.windows_setReportLink (v : Option LinkId) : (s.setReportLink v).windows = s.windows := by
  have withdrawn : s.withdrawPortStates.windows = s.windows := by
    unfold State.withdrawPortStates
    split <;> rfl
  cases v with
  | none => exact withdrawn
  | some j =>
    rw [State.setReportLink_some]
    exact (foldl_keeps State.windows _ (fun t p => t.windows_enterNotice j _) _ _).trans withdrawn

/-- A JOB port with its flow state running (R108). -/
def State.flowing (s : State) (p : PortId) : State := s.mapPort p (fun x => { x with flow := .running })

theorem State.enable_job {p : PortId} (job : (s.port p).profile.kind = .job) : s.enable p =
    if (s.port p).isReady then (s.flowing p).enterIdle p else (s.flowing p).setPortState p .offline := by
  have ready : (s.port p).isReady = ((s.flowing p).port p).isReady := by
    rw [State.flowing, State.port_mapPort_self]
    rfl
  rw [State.enable, job, ready]
  rfl

theorem State.enable_panel {p : PortId} (panel : (s.port p).profile.kind = .panel) : s.enable p =
    if (s.port p).isReady then s.enterIdle p else s.setPortState p .offline := by
  rw [State.enable, panel]

theorem State.windows_enable (p : PortId) : (s.enable p).windows = s.windows := by
  cases kind : (s.port p).profile.kind with
  | job =>
    rw [State.enable_job s kind]
    split
    · exact (State.worked_enterIdle _ p).windows
    · exact (State.worked_setPortState _ p _).windows
  | panel =>
    rw [State.enable_panel s kind]
    split
    · exact (s.worked_enterIdle p).windows
    · exact (s.worked_setPortState p _).windows

theorem State.windows_disable (p : PortId) : (s.disable p).windows = s.windows := by
  unfold State.disable
  split
  · have revoked := (s.worked_revokePort p (.cause .disabled)).trans (State.worked_dropWaits _ (.port p))
    exact (State.worked_setPortState _ p _).windows.trans revoked.windows
  · refine (State.worked_setPortState _ p _).windows.trans ?_
    split
    · exact (s.worked_panelLeavesIdle p).windows
    · rfl

/-- A performing that leaves the window table as it is. -/
def KeepsWindows (perform : State → Performed) : Prop := ∀ t : State, (perform t).state.windows = t.windows

theorem keepsWindows_readIndexed {n : Nat} (ops : List Byte) (names : State → Fin n → Option Resource)
    (bytes : State → Fin n → List Byte) : KeepsWindows (fun t => t.readIndexed ops (names t) (bytes t)) := by
  intro t
  dsimp only
  unfold State.readIndexed
  split
  · rfl
  · split <;> rfl

theorem keepsWindows_readLease (ops : List Byte) : KeepsWindows (State.readLease ops) := by
  intro t
  unfold State.readLease
  split
  · rfl
  · split <;> rfl

theorem keepsWindows_readCounts (ops : List Byte) : KeepsWindows (State.readCounts ops) := by
  have links (t : State) (index flag : Byte) : (t.readLinkCounts index flag).state.windows = t.windows := by
    unfold State.readLinkCounts
    split
    · next clear _ _ => cases clear <;> rfl
    · rfl
  have ports (t : State) (index flag : Byte) : (t.readPortCounts index flag).state.windows = t.windows := by
    unfold State.readPortCounts
    split
    · rfl
    · split
      · rfl
      · next clear _ => cases clear <;> rfl
  intro t
  unfold State.readCounts
  split
  · split
    · exact links t _ _
    · split
      · exact ports t _ _
      · rfl
  · rfl

theorem keepsWindows_loadZone (ops : List Byte) : KeepsWindows (State.loadZone ops) := by
  intro t
  unfold State.loadZone
  split
  · rfl
  split
  · rfl
  split
  · rfl
  split
  · rfl
  · exact t.windows_replaceZone _ _

theorem keepsWindows_loadPort (ops : List Byte) : KeepsWindows (State.loadPort ops) := by
  intro t
  unfold State.loadPort
  split
  · rfl
  split
  · rfl
  split
  · rfl
  split <;> rfl

theorem keepsWindows_loadLink (ops : List Byte) : KeepsWindows (State.loadLink k ops) := by
  intro t
  unfold State.loadLink
  split
  · rfl
  split
  · rfl
  split
  · rfl
  split
  · rfl
  · exact t.windows_replaceLink k _ _

theorem keepsWindows_setReport (ops : List Byte) : KeepsWindows (State.setReport ops) := by
  intro t
  unfold State.setReport
  split
  · rfl
  split
  · rfl
  · exact t.windows_setReportLink _

theorem keepsWindows_manageRevoke (ops : List Byte) : KeepsWindows (State.manageRevoke ops) := by
  intro t
  unfold State.manageRevoke
  split
  · rfl
  split
  · rfl
  split
  · exact (t.worked_revoke _ _).windows
  · rfl

theorem keepsWindows_enablePort (ops : List Byte) : KeepsWindows (State.enablePort ops) := by
  intro t
  unfold State.enablePort
  split
  · rfl
  split
  · rfl
  split
  · exact t.windows_enable _
  · rfl

theorem keepsWindows_disablePort (ops : List Byte) : KeepsWindows (State.disablePort ops) := by
  intro t
  unfold State.disablePort
  split
  · rfl
  split
  · rfl
  split
  · rfl
  · exact t.windows_disable _

theorem State.windows_handle (h : Hand) (r : Option Resource) {perform : State → Performed}
    (keeps : KeepsWindows perform) : (s.handle k h r perform).windows = s.windows := by
  unfold State.handle
  split
  · dsimp only
    split
    · exact keeps _
    · exact keeps _
  · rfl

variable {s t u : State} {k}

theorem windows_of_live (h : s.live u = .next t) (same : u.windows = s.windows) : t.windows = s.windows := by
  rcases State.eq_of_live h with rfl | rfl
  · rfl
  · exact same

/-- A management command whose performing keeps the window table keeps it. -/
theorem windows_of_manage {cmd : MgmtCmd} {perform : List Byte → State → Performed}
    (h : s.live (s.manage k cmd perform) = .next t) (keeps : ∀ ops : List Byte, KeepsWindows (perform ops)) :
    t.windows = s.windows := by
  refine windows_of_live h ?_
  unfold State.manage
  split
  · split
    · refine s.windows_handle k _ _ fun t => ?_
      split
      · exact keeps _ t
      · rfl
    · rfl
  · rfl

theorem windows_of_whenDue {d : Due} (h : s.live (s.whenDue d u) = .next t) (same : u.windows = s.windows) :
    t.windows = s.windows := by
  refine windows_of_live h ?_
  unfold State.whenDue
  split
  · exact same
  · rfl

theorem State.windows_takePresent (s : State) (k : LinkId) : (s.takePresent k).windows = s.windows := by
  unfold State.takePresent
  dsimp only
  split
  · exact State.windows_tearDown _ k
  · split <;> rfl

theorem windows_exec_presentChangeTaken {level : Bool} (h : exec (.presentChangeTaken k level) s = .next t) :
    t.windows = s.windows := by
  have taken : (s.whenDue (.present k) (s.takePresent k)).windows = s.windows := by
    unfold State.whenDue
    split
    · exact s.windows_takePresent k
    · rfl
  refine windows_of_live h ?_
  split
  · exact taken
  · exact taken

theorem windows_exec_port {c : Instr} {p : PortId} (port : Instr.portOf c = some p) (h : exec c s = .next t) :
    t.windows = s.windows := (State.eventAt_exec port h).windows

/-- An event of one link's receiver, taking or transmitter leaves the tables. -/
theorem windows_exec_link {c : Instr} (event : (∃ b : LinkChar, c = .linkByteReceived k b) ∨ c = .frameTaken k ∨
    c = .noticeMove k ∨ (∃ holdIn : Bool, c = .idleCharacterEnd k holdIn)) (h : exec c s = .next t) :
    t.windows = s.windows := by
  obtain ⟨only, -, -⟩ := eventsLeaveTheRestAlone.2 s t k c event h
  rw [only]
  rfl

end

/-- Settles O50: the four requests, and the window table command by command. -/
theorem requestsLeaveTheTablesAlone : Obligations.RequestsLeaveTheTablesAlone := by
  refine ⟨fun s t k c request h => ?_, fun s t c keeps h => ?_⟩
  · have handled := handled_exec request h
    exact ⟨handled.windows, handled.zones, handled.reportLink, handled.restart, handled.inReset, handled.pending,
      handled.choices, handled.lines, handled.links⟩
  · cases c with
    | loadWindow | pinReset | resetEnd | restartTimeout | linkFrameComplete => cases keeps
    | linkByteReceived k b => exact windows_exec_link (.inl ⟨b, rfl⟩) h
    | frameTaken k => exact windows_exec_link (.inr (.inl rfl)) h
    | noticeMove k => exact windows_exec_link (.inr (.inr (.inl rfl))) h
    | idleCharacterEnd k holdIn => exact windows_exec_link (.inr (.inr (.inr ⟨holdIn, rfl⟩))) h
    | presentChangeTaken k level => exact windows_exec_presentChangeTaken h
    | selfDisableTimeout k => exact windows_of_whenDue h (s.windows_tearDown k)
    | claim k => exact (handled_exec (.inl rfl) h).windows
    | release k => exact (handled_exec (.inr (.inl rfl)) h).windows
    | data k => exact (handled_exec (.inr (.inr (.inl rfl))) h).windows
    | status k => exact (handled_exec (.inr (.inr (.inr rfl))) h).windows
    | loadZone k => exact windows_of_manage h keepsWindows_loadZone
    | loadPort k => exact windows_of_manage h keepsWindows_loadPort
    | loadLink k => exact windows_of_manage h (keepsWindows_loadLink k)
    | setReport k => exact windows_of_manage h keepsWindows_setReport
    | readWindow k => exact windows_of_manage h fun ops => keepsWindows_readIndexed ops _ _
    | readZone k => exact windows_of_manage h fun ops => keepsWindows_readIndexed ops _ _
    | readPort k => exact windows_of_manage h fun ops => keepsWindows_readIndexed ops _ _
    | readLink k => exact windows_of_manage h fun ops => keepsWindows_readIndexed ops _ _
    | readLease k => exact windows_of_manage h keepsWindows_readLease
    | readCounts k => exact windows_of_manage h keepsWindows_readCounts
    | revoke k => exact windows_of_manage h keepsWindows_manageRevoke
    | enablePort k => exact windows_of_manage h keepsWindows_enablePort
    | disablePort k => exact windows_of_manage h keepsWindows_disablePort
    | restart k => exact windows_of_manage h fun _ _ => rfl
    | idleTimerExpiry | readyChangeTaken | faultChangeTaken | graceTimerExpiry | stallTimerExpiry
      | turnaroundTimerExpiry | gatherTimerExpiry | portCharacterReceived | portCharacterSent | busyNegated =>
      exact windows_exec_port rfl h

end Sys2Proof.Machine
end

section
/-! PROOF. ENABLE_PORT and DISABLE_PORT (R100, R107, R108, R144, R160, R176). -/

namespace Sys2Proof.Machine

/-! ## The commands -/

section
variable {s t : State} {k : LinkId} {tag : Byte} {address : Word} {c b : Byte} {p : PortId} {a : Answer}

theorem names_enablePort (named : b.toNat = p.val) : MgmtCmd.names .enablePort [c, b] = some (.port p) := by
  simp [MgmtCmd.names, indexOf_eq_some named]

theorem names_disablePort (named : b.toNat = p.val) : MgmtCmd.names .disablePort [c, b] = some (.port p) := by
  simp [MgmtCmd.names, indexOf_eq_some named]

theorem exec_enablePort_answered {h : Hand} (hand : h = ⟨tag, address, .mgmt .enablePort [c, b]⟩)
    (named : b.toNat = p.val) (handles : Handles s k h (some (.port p)))
    (performed : State.enablePort [b] (s.prepared k (some (.port p))) = ⟨t, some a⟩) :
    exec (.enablePort k) s = .next (t.answer k h a) := by
  subst hand
  exact exec_mgmt_answered (cmd := .enablePort) rfl handles rfl (names_enablePort named) performed

theorem exec_disablePort_answered {h : Hand} (hand : h = ⟨tag, address, .mgmt .disablePort [c, b]⟩)
    (named : b.toNat = p.val) (handles : Handles s k h (some (.port p)))
    (performed : State.disablePort [b] (s.prepared k (some (.port p))) = ⟨t, some a⟩) :
    exec (.disablePort k) s = .next (t.answer k h a) := by
  subst hand
  exact exec_mgmt_answered (cmd := .disablePort) rfl handles rfl (names_disablePort named) performed

theorem exec_enablePort_range {h : Hand} (hand : h = ⟨tag, address, .mgmt .enablePort [c, b]⟩) (high : 6 ≤ b.toNat)
    (handles : Handles s k h none) :
    exec (.enablePort k) s = .next ((s.prepared k none).answer k h (Answer.plain .range 0xFF 0)) := by
  subst hand
  refine exec_mgmt_answered (cmd := .enablePort) rfl handles rfl ?_ ?_
  · simp [MgmtCmd.names, indexOf_eq_none high]
  · rw [State.enablePort, indexOf_eq_none high]
    rfl

theorem exec_disablePort_range {h : Hand} (hand : h = ⟨tag, address, .mgmt .disablePort [c, b]⟩) (high : 6 ≤ b.toNat)
    (handles : Handles s k h none) :
    exec (.disablePort k) s = .next ((s.prepared k none).answer k h (Answer.plain .range 0xFF 0)) := by
  subst hand
  refine exec_mgmt_answered (cmd := .disablePort) rfl handles rfl ?_ ?_
  · simp [MgmtCmd.names, indexOf_eq_none high]
  · rw [State.disablePort, indexOf_eq_none high]
    rfl

theorem State.enablePort_already (named : b.toNat = p.val) (enabled : (s.port p).state ≠ .disabled) :
    State.enablePort [b] s = ⟨s, some (Answer.plain .done (Resource.port p).code 1)⟩ := by
  rw [State.enablePort, indexOf_eq_some named]
  exact if_neg enabled

theorem State.enablePort_enables (named : b.toNat = p.val) (disabled : (s.port p).state = .disabled) :
    State.enablePort [b] s = ⟨s.enable p, some (Answer.plain .done (Resource.port p).code 0)⟩ := by
  rw [State.enablePort, indexOf_eq_some named]
  exact if_pos disabled

theorem State.disablePort_already (named : b.toNat = p.val) (disabled : (s.port p).state = .disabled) :
    State.disablePort [b] s = ⟨s, some (Answer.plain .done (Resource.port p).code 1)⟩ := by
  rw [State.disablePort, indexOf_eq_some named]
  exact if_pos disabled

theorem State.disablePort_disables (named : b.toNat = p.val) (enabled : (s.port p).state ≠ .disabled) :
    State.disablePort [b] s = ⟨s.disable p, some (Answer.plain .done (Resource.port p).code 0)⟩ := by
  rw [State.disablePort, indexOf_eq_some named]
  exact if_neg enabled

end

/-! ## A JOB port disabled -/

section
variable (s : State) (p : PortId)

theorem State.waits_cutInbound (b : BufId) : (s.cutInbound p b).waits = s.waits := by
  unfold State.cutInbound
  split
  · rfl
  · rfl
  · split <;> rfl

theorem State.waits_cut : (s.cut p).waits = s.waits := by
  rw [State.cut, State.waits_mapPort, State.waits_cutInbound, State.waits_cutInbound]

theorem State.waits_noticeRevoked (r : Resource) (h : Holding) (why : RevokeReason) :
    (s.noticeRevoked r h why).waits = s.waits := by
  unfold State.noticeRevoked
  split
  · exact s.waits_enterNotice _ _
  · rfl

theorem State.disable_job (job : (s.port p).profile.kind = .job) : s.disable p = s.disableJob p := by
  rw [State.disable, job]

theorem State.disable_panel (panel : (s.port p).profile.kind = .panel) : s.disable p = s.disablePanel p := by
  rw [State.disable, panel]

/-- A revoke for DISABLED leaves the lease free and the pool and the flow state as they were. -/
theorem State.revokePort_disabled_leaves : (s.revokePort p (.cause .disabled)).lease (.port p) = .free ∧
    (s.revokePort p (.cause .disabled)).waits = s.waits ∧
    ((s.revokePort p (.cause .disabled)).port p).flow = (s.port p).flow := by
  cases holding : (s.lease (.port p)).holding with
  | none =>
    have same : s.revokePort p (.cause .disabled) = s := by rw [State.revokePort, holding]
    have free : s.lease (.port p) = .free := by
      cases lease : s.lease (.port p) with
      | free => rfl
      | held h | releasing h => rw [lease] at holding; cases holding
    rw [same]
    exact ⟨free, rfl, rfl⟩
  | some h =>
    rw [State.revokePort_disabled holding]
    refine ⟨State.lease_revoked, ?_, ?_⟩
    · rw [State.revoked, State.waits_noticeRevoked, State.waits_setLease, State.waits_cut]
    · rw [State.port_revoked, (s.cutFrom_cut p).flow]

/-- The part with the lease of p revoked and its waiters dropped, as the port is disabled (R100, R107). -/
def State.emptied (s : State) (p : PortId) : State := (s.revokePort p (.cause .disabled)).dropWaits (.port p)

theorem State.disableJob_eq : s.disableJob p = ((s.emptied p).mapPort p Port.stop).setPortState p .disabled := rfl

theorem State.port_dropWaits (r : Resource) (q : PortId) : (s.dropWaits r).port q = s.port q := by
  rw [(s.told_dropWaits r).rest]
  rfl

theorem State.lease_dropWaits (r q : Resource) : (s.dropWaits r).lease q = s.lease q := by
  rw [(s.told_dropWaits r).rest]
  cases q <;> rfl

theorem State.port_disableJob : (s.disableJob p).port p =
    { ((s.emptied p).port p).stop with state := .disabled, select := false } := by
  rw [State.disableJob_eq, State.port_setPortState_self, State.port_mapPort_self]
  rfl

theorem State.lease_disableJob : (s.disableJob p).lease (.port p) = .free := by
  obtain ⟨free, -, -⟩ := s.revokePort_disabled_leaves p
  rw [State.disableJob_eq, State.lease_setPortState, State.lease_mapPort, State.emptied, State.lease_dropWaits, free]

theorem State.flow_disableJob : ((s.disableJob p).port p).flow = (s.port p).flow := by
  obtain ⟨-, -, flow⟩ := s.revokePort_disabled_leaves p
  rw [← flow, State.port_disableJob, State.emptied, State.port_dropWaits]
  rfl

/-- The waiters of a port that is disabled are dropped (R100). -/
theorem State.waitsDropped_disableJob : WaitsDropped s (s.disableJob p) (.port p) := by
  obtain ⟨-, waits, -⟩ := s.revokePort_disabled_leaves p
  have dropped := waitsDropped_dropWaits (s.revokePort p (.cause .disabled)) (.port p)
  refine ⟨?_, fun w mem resource only up => ?_⟩
  · rw [State.disableJob_eq, State.waits_setPortState, State.waits_mapPort, State.emptied, dropped.waits, waits]
  · have told := dropped.told w (by rw [waits]; exact mem) resource (by rw [waits]; exact only)
      (((s.worked_revokePort p _).up w.link).trans up)
    rw [State.disableJob_eq, State.mem_setPortState _ (show (NoticeBody.dropped _).rank ≠ 8 by simp [NoticeBody.rank]),
      State.link_of_mapPort]
    exact told

theorem State.mem_waits_disableJob {w : Wait} (mem : w ∈ (s.disableJob p).waits) : w.resource ≠ .port p := by
  rw [(s.waitsDropped_disableJob p).waits] at mem
  exact bne_iff_ne.1 (List.mem_filter.1 mem).2

/-! ## A PANEL port disabled -/

theorem State.disablePanel_idle (idle : (s.port p).state = .idle) :
    s.disablePanel p = (s.panelLeavesIdle p).setPortState p .disabled := by
  rw [State.disablePanel, if_pos idle]

theorem State.disablePanel_other (other : (s.port p).state ≠ .idle) :
    s.disablePanel p = s.setPortState p .disabled := by
  rw [State.disablePanel, if_neg other]

theorem State.lease_disablePanel : (s.disablePanel p).lease = s.lease := by
  have same (t : State) : (t.setPortState p .disabled).lease = t.lease := funext fun r => t.lease_setPortState p _ r
  by_cases idle : (s.port p).state = .idle
  · rw [State.disablePanel_idle s p idle, same, State.lease_panelLeavesIdle]
  · rw [State.disablePanel_other s p idle, same]

theorem State.contact_setPortState (st : PortState) (c : ContactId) :
    (s.setPortState p st).contact p c = s.contact p c := by
  rw [State.contact, State.port_setPortState_self, State.contact]

end

/-- Settles O34: the outcomes of the two commands, a JOB port and a PANEL port disabled, and the drop of waiters. -/
theorem enableAndDisablePort : Obligations.EnableAndDisablePort := by
  refine ⟨fun s u k tag address c b h hand => ⟨fun high handles => exec_enablePort_range hand high handles,
      fun p named handles at_ => ?_⟩,
    ⟨fun s u k tag address c b h hand => ⟨fun high handles => exec_disablePort_range hand high handles,
        fun p named handles at_ => ?_⟩,
      fun s p => ?_,
      fun s r => ⟨waitsDropped_dropWaits s r, (s.told_dropWaits r).rest,
        fun k => ⟨(s.told_dropWaits r).link k, fun others => s.link_dropWaits_other others⟩⟩,
      fun s p => ⟨?_, s.lease_disablePanel p, fun idle => ⟨?_, fun c => ?_⟩⟩⟩,
    fun s t p at_ => ?_, fun s p => ⟨s.disablePanel_idle p, s.disablePanel_other p⟩⟩
  · subst at_
    have enables {t : State} (disabled : (s.port p).state = .disabled)
        (enabled : (s.prepared k (some (.port p))).enable p = t) : exec (.enablePort k) s =
        .next (t.answer k h (Answer.plain .done (Resource.port p).code 0)) := by
      rw [← enabled]
      exact exec_enablePort_answered hand named handles (State.enablePort_enables named disabled)
    refine ⟨fun enabled => ?_, fun disabled job ready empty => enables disabled ?_,
      fun disabled job notReady => enables disabled ?_, fun disabled panel => enables disabled ?_⟩
    · exact exec_enablePort_answered hand named handles (State.enablePort_already named enabled)
    · rw [State.enable_job (s.prepared k (some (.port p))) job]
      exact (if_pos ready).trans (State.enterIdle_rests rfl (.inl empty))
    · rw [State.enable_job (s.prepared k (some (.port p))) job]
      exact if_neg (Bool.eq_false_iff.1 notReady)
    · rw [State.enable_panel (s.prepared k (some (.port p))) panel]
      cases ready : (s.port p).isReady with
      | true => exact (if_pos ready).trans (State.enterIdle_rests rfl (.inr (.inl panel)))
      | false => exact if_neg (Bool.eq_false_iff.1 ready)
  · subst at_
    have disables {t : State} (enabled : (s.port p).state ≠ .disabled)
        (disabled : (s.prepared k (some (.port p))).disable p = t) : exec (.disablePort k) s =
        .next (t.answer k h (Answer.plain .done (Resource.port p).code 0)) := by
      rw [← disabled]
      exact exec_disablePort_answered hand named handles (State.disablePort_disables named enabled)
    refine ⟨fun disabled => ?_, fun enabled job => disables enabled ?_, fun enabled panel => disables enabled ?_⟩
    · exact exec_disablePort_answered hand named handles (State.disablePort_already named disabled)
    · exact State.disable_job (s.prepared k (some (.port p))) p job
    · exact State.disable_panel (s.prepared k (some (.port p))) p panel
  · have port := s.port_disableJob p
    refine ⟨?_, s.lease_disableJob p, fun w mem => s.mem_waits_disableJob p mem, ?_, ?_, ?_, ?_, ?_, ?_, ?_, ?_,
      s.flow_disableJob p, s.waitsDropped_disableJob p⟩
    all_goals simp only [port, Port.stop]
  · rw [State.disablePanel, State.port_setPortState_self]
  · rw [State.disablePanel_idle s p idle, State.port_setPortState_self]
    dsimp only
    exact s.assembler_panelLeavesIdle p
  · rw [State.disablePanel_idle s p idle, State.contact_setPortState, State.contact_panelLeavesIdle]
  · subst at_
    rfl

end Sys2Proof.Machine
end
